-- ==== Sys2Proof/Word.lean ====
section
/-! DEFINITION. The word types of the block: 00_scope.md rule R8 (all values are unsigned; a byte is 8 bits). -/

namespace Sys2Proof

/-- A byte: every host register, frame byte and stream byte (R8, R35). Also SEQ, whose width SEQ_WIDTH is 8 (R6, R23; log 24). -/
abbrev Byte := BitVec 8

/-- A 16-bit value: CTR (CTR_WIDTH, R24), CRC_ACC and every CRC (CRC_WIDTH, R29, R78; log 24). -/
abbrev Half := BitVec 16

/-- A host register offset, 16 bits (R35). -/
abbrev Offset := BitVec 16

end Sys2Proof
end

