-- ==== Sys2Proof/Config.lean ====
section
/-! DEFINITION. The parameters of 00_scope.md rules R6 and R7 as configuration fields, and the CRC parameters of
40_checksum_unit.md rule R79 as one configuration record. -/

namespace Sys2Proof

/-- The numbers of the CRC (R79). The spec supplies them from general knowledge (G1), not from the source: UNVERIFIED, unsafe (log 8). -/
structure CrcParams where
  /-- CRC_WIDTH (R6): the top bit of the register is bit `width - 1`. The fields below have its value as their type's width (log 24). -/
  width : Nat
  poly : Half
  init : Half
  reflectIn : Bool
  reflectOut : Bool
  finalXor : Half
  /-- The value of the CRC of the nine ASCII bytes of "123456789". -/
  check : Half
deriving DecidableEq, Repr

/-- CRC-16/CCITT-FALSE (R79). -/
def ccittFalse : CrcParams where
  width := 16
  poly := 0x1021
  init := 0xFFFF
  reflectIn := false
  reflectOut := false
  finalXor := 0x0000
  check := 0x29B1

/-- The line format of R6: it has no effect on the model, and nothing reads it. -/
structure LineFormat where
  dataBits : Nat
  parity : Bool
  stopBits : Nat
  flowControl : Bool
deriving DecidableEq, Repr

/-- The parameters of R6. The spec calls the source's literals unaudited: UNVERIFIED, unsafe (log 20). -/
structure Config where
  /-- SEQ_WIDTH and CTR_WIDTH: the advance wraps modulo two to the width (R131; log 24). -/
  seqWidth : Nat
  ctrWidth : Nat
  crc : CrcParams
  /-- SYNC, two bytes in wire order (R59). -/
  sync0 : Byte
  sync1 : Byte
  ackKind : Byte
  /-- RETRY_KIND, a knob (R7, D44). -/
  retryKind : Byte
  msgKind : Byte
  /-- CTRL_MARKER, three bytes in wire order (R69). -/
  ctrlMarker0 : Byte
  ctrlMarker1 : Byte
  ctrlMarker2 : Byte
  /-- The offset of CTRL_MARKER in its frame, a knob (R7, D10; log 16). -/
  ctrlMarkerOffset : Nat
  ctrlLen : Nat
  /-- The length of an ACK or retry-ACK frame (R64). -/
  ackLen : Nat
  /-- The length of the header with its sync and CRC, which the header-first read takes (R102). -/
  headerLen : Nat
  frameOverhead : Nat
  maxPayloadLen : Nat
  maxFrameLen : Nat
  reqPayloadLen : Byte
  echoLen : Nat
  respBufSize : Nat
  /-- MAX_ACK_ATTEMPTS: a retry-ACK is answered by a second request if another attempt is left (R114, R116; log 24). -/
  maxAckAttempts : Nat
  /-- RX_CAP; `none` is unbounded (D8, I6; log 15). -/
  rxCap : Option Nat
  /-- DRAIN_RETRY_AS_ACK (D12). -/
  drainRetryAsAck : Bool
  /-- BAUD has no effect on the model (R6), and nothing reads this field. -/
  baud : Nat
  lineFormat : LineFormat
deriving DecidableEq, Repr

/-- What R6 derives: MAX_PAYLOAD_LEN from the one-byte length field, MAX_FRAME_LEN and RESP_BUF_SIZE from it. -/
def Config.consistent (c : Config) : Bool :=
  c.maxPayloadLen + 1 == 2 ^ 8 && c.maxFrameLen == c.frameOverhead + c.maxPayloadLen
    && c.respBufSize == c.maxPayloadLen - c.echoLen

/-- The values R6 gives. -/
def config : Config where
  seqWidth := 8
  ctrWidth := 16
  crc := ccittFalse
  sync0 := 0xAA
  sync1 := 0x55
  ackKind := 0x40
  retryKind := 0x04
  msgKind := 0x80
  ctrlMarker0 := 0x4E
  ctrlMarker1 := 0x00
  ctrlMarker2 := 0x53
  ctrlMarkerOffset := 2
  ctrlLen := 25
  ackLen := 10
  headerLen := 8
  frameOverhead := 10
  maxPayloadLen := 255
  maxFrameLen := 265
  reqPayloadLen := 0x08
  echoLen := 8
  respBufSize := 247
  maxAckAttempts := 2
  rxCap := none
  drainRetryAsAck := false
  baud := 3000000
  lineFormat := { dataBits := 8, parity := false, stopBits := 1, flowControl := false }

/-- The command opcodes (30_encoding.md rule R73). -/
def opNop : Byte := 0x00
def opCrcInit : Byte := 0x01
def opCrcUpdate : Byte := 0x02
def opStart : Byte := 0x10
def opAbort : Byte := 0x11

end Sys2Proof
end

