-- ==== Sys2Proof/Machine/Operands.lean ====
section
/-! DEFINITION. The byte-level operand forms: field assembly (R9, R39, R40, R72), byte ranges (R9), and the layout of a table word
as bytes (R77; log 6). -/

namespace Sys2Proof.Machine

/-- The low byte of a 16-bit value: `v[7:0]` (R8). -/
def lo (v : Half) : Byte := v.setWidth 8

/-- The high byte of a 16-bit value: `v[15:8]` (R8). -/
def hi (v : Half) : Byte := (v >>> 8).setWidth 8

/-- The 16-bit value with high byte `h` and low byte `l` (R8). -/
def pair (h l : Byte) : Half := (h.setWidth 16 <<< 8) ||| l.setWidth 16

/-- `le16(v)` (R9): the low byte first on the wire (R40). -/
def le16 (v : Half) : List Byte := [lo v, hi v]

/-- `(v + 1) mod 2^width` (R131). -/
def incr {w : Nat} (width : Nat) (v : BitVec w) : BitVec w := BitVec.ofNat w ((v.toNat + 1) % 2 ^ width)

/-- Byte `i` of a sequence. Each use stands behind a length check; past the end it answers 0 (log 23). -/
def at_ (b : List Byte) (i : Nat) : Byte := b.getD i 0

/-- `rd16(b, i)` (R9, R72): the little-endian 16-bit value at offset `i`. -/
def rd16 (b : List Byte) (i : Nat) : Half := pair (at_ b (i + 1)) (at_ b i)

/-- The `n` bytes of `b` from offset `i` on: `b[i .. i + n - 1]` (R9). -/
def span (b : List Byte) (i n : Nat) : List Byte := (b.drop i).take n

/-- Byte `k` of a number, byte 0 its least significant. -/
def byteOfNat (w k : Nat) : Byte := BitVec.ofNat 8 (w / 2 ^ (8 * k))

/-- The low `n` bytes of a number, least significant first. -/
def bytesOfNat (w n : Nat) : List Byte := (List.range n).map (byteOfNat w)

end Sys2Proof.Machine
end

