-- ==== Sys2Proof/Machine/Checksum.lean ====
section
/-! DEFINITION. The Checksum Unit: 40_checksum_unit.md rules R78 to R82. -/

namespace Sys2Proof.Machine

/-- One shift of the CRC register, the body of R81's loop. -/
def crcShift (p : CrcParams) (c : Half) : Half :=
  if c.getLsbD (p.width - 1) then (c <<< 1) ^^^ p.poly else c <<< 1

/-- `n` shifts. -/
def crcShifts (p : CrcParams) : Nat → Half → Half
  | 0, c => c
  | n + 1, c => crcShifts p n (crcShift p c)

/-- The byte as the CRC takes it in: most significant bit first, unless the parameters reflect it (R79). -/
def crcInput (p : CrcParams) (x : Byte) : Byte := if p.reflectIn then x.reverse else x

/-- `crc_step` (R81): fold one byte into a CRC value. -/
def crcStep (p : CrcParams) (c : Half) (x : Byte) : Half :=
  crcShifts p 8 (c ^^^ pair (crcInput p x) 0)

/-- The register's value as it is put out (R79): CCITT-FALSE leaves it as it is (log 18). -/
def crcOutput (p : CrcParams) (c : Half) : Half := (if p.reflectOut then c.reverse else c) ^^^ p.finalXor

/-- `crc16` (R80) under given parameters. -/
def crcOf (p : CrcParams) (b : List Byte) : Half := crcOutput p (b.foldl (crcStep p) p.init)

/-- `crc16` (R80). -/
def crc16 (b : List Byte) : Half := crcOf config.crc b

/-- `crc_ok(span, lo, hi)` (R82): exact, with no residue method. -/
def crcOk (p : CrcParams) (b : List Byte) (l h : Byte) : Bool := pair h l == crcOf p b

end Sys2Proof.Machine
end

