-- ==== Sys2Proof/Machine/Codec.lean ====
section
/-! DEFINITION. The Frame Codec: 41_frame_codec.md rules R87 to R96. Pure functions; a decode answers an error value (R87). -/

namespace Sys2Proof.Machine

/-- The error a decode or a drain can raise (R135). CommunicationFailure and Aborted are outcomes of the engine, not of a decode. -/
inductive FrameError where
  | frameCorrupt
  | sequenceMismatch
  | payloadMismatch
  | unknownFrameKind
deriving DecidableEq, Repr

/-- The sync marker (R59). -/
def sync (cfg : Config) : List Byte := [cfg.sync0, cfg.sync1]

/-- A header of four bytes behind its sync and followed by its CRC (R60, R62). -/
def sealHeader (cfg : Config) (hdr : List Byte) : List Byte := sync cfg ++ hdr ++ le16 (crcOf cfg.crc hdr)

/-- The header of a request frame (R88). -/
def requestHeader (cfg : Config) (seq : Byte) : List Byte := [cfg.msgKind, cfg.reqPayloadLen, 0x00, seq]

/-- The request payload (R67). -/
def requestPayload (cfg : Config) (ctr : Half) (tc iid rc : Byte) : List Byte :=
  [cfg.msgKind, tc, 0x01, 0x00, iid, lo ctr, hi ctr, rc]

/-- `encode_request` (R88). -/
def encodeRequest (cfg : Config) (seq : Byte) (ctr : Half) (tc iid rc : Byte) : List Byte :=
  sealHeader cfg (requestHeader cfg seq) ++ requestPayload cfg ctr tc iid rc
    ++ le16 (crcOf cfg.crc (requestPayload cfg ctr tc iid rc))

/-- The header of an ACK frame (R89). -/
def ackHeader (cfg : Config) (seq : Byte) : List Byte := [cfg.ackKind, 0x00, 0x00, seq]

/-- `encode_ack` (R89). -/
def encodeAck (cfg : Config) (seq : Byte) : List Byte := sealHeader cfg (ackHeader cfg seq) ++ [0xFF, 0xFF]

/-- The CRC of header bytes 2 to 5 stands at bytes 6 and 7 (R62, R82). -/
def headerCrcOk (cfg : Config) (b : List Byte) : Bool := crcOk cfg.crc (span b 2 4) (at_ b 6) (at_ b 7)

/-- The sync marker stands at offset 0 (R59). -/
def syncOk (cfg : Config) (b : List Byte) : Bool := at_ b 0 == cfg.sync0 && at_ b 1 == cfg.sync1

/-- `msg_header_ok` (R90). -/
def msgHeaderOk (cfg : Config) (h : List Byte) : Bool :=
  syncOk cfg h && at_ h 2 == cfg.msgKind && at_ h 4 == 0x00 && headerCrcOk cfg h

/-- `decode_ack` (R91): the answer is whether a retry is requested. The order of the checks is the priority (R92). -/
def decodeAck (cfg : Config) (b : List Byte) (expected : Byte) : Except FrameError Bool :=
  if b.length ≠ cfg.ackLen then .error .frameCorrupt
  else if !syncOk cfg b then .error .frameCorrupt
  else if at_ b 3 ≠ 0x00 ∨ at_ b 4 ≠ 0x00 then .error .frameCorrupt
  else if !headerCrcOk cfg b then .error .frameCorrupt
  else if at_ b 8 ≠ 0xFF ∨ at_ b 9 ≠ 0xFF then .error .frameCorrupt
  else if at_ b 2 = cfg.ackKind then
    if at_ b 5 ≠ expected then .error .sequenceMismatch else .ok false
  else if at_ b 2 = cfg.retryKind then .ok true
  else .error .frameCorrupt

/-- The echo header a response must carry (R68, R93). -/
def echoHeader (cfg : Config) (ctr : Half) (tc iid rc : Byte) : List Byte :=
  [cfg.msgKind, tc, 0x00, 0x01, iid, lo ctr, hi ctr, rc]

/-- What a decoded response gives (R96). -/
structure Response where
  echoSeq : Byte
  fields : List Byte
deriving DecidableEq, Repr

/-- `decode_message` (R93). The order of the checks is the priority (R94); a payload shorter than the echo is PayloadMismatch (R95). -/
def decodeMessage (cfg : Config) (b : List Byte) (ctr : Half) (tc iid rc : Byte) : Except FrameError Response :=
  if b.length < cfg.headerLen ∨ !msgHeaderOk cfg b then .error .frameCorrupt
  else
    let len := (at_ b 3).toNat
    let payload := span b cfg.headerLen len
    if b.length ≠ cfg.frameOverhead + len then .error .frameCorrupt
    else if len < cfg.echoLen then .error .payloadMismatch
    else if payload.take cfg.echoLen ≠ echoHeader cfg ctr tc iid rc then .error .payloadMismatch
    else if !crcOk cfg.crc payload (at_ b (cfg.headerLen + len)) (at_ b (cfg.headerLen + len + 1)) then
      .error .frameCorrupt
    else .ok { echoSeq := at_ b 5, fields := payload.drop cfg.echoLen }

end Sys2Proof.Machine
end

