-- ==== Sys2Proof/Machine/State.lean ====
section
/-! DEFINITION. The machine's state: 10_state.md rules R14 to R34, its reset values R36, and the two fields of the model's own (the agenda of
events to come, log 1; the bytes host reads returned, log 13). -/

namespace Sys2Proof.Machine

/-- STATE (R16). The reserved codes 0x9 to 0xF are never held (log 10). -/
inductive EngineState where
  | idle
  | draining
  | awaitingAck
  | retrySend
  | awaitingResponse
  | sendingResponseAck
  | drainingTrailing
  | done
  | failed
deriving DecidableEq, Repr

/-- RESULT (R25, R136). The reserved codes 0x08 to 0xFF are never written (log 10). -/
inductive ResultCode where
  | none
  | ok
  | commFailure
  | frameCorrupt
  | sequenceMismatch
  | payloadMismatch
  | unknownFrameKind
  | aborted
deriving DecidableEq, Repr

/-- RSP_PHASE (R32). -/
inductive RspPhase where
  | hdr
  | body
deriving DecidableEq, Repr

/-- One atomic event of one agent (R12, R53). -/
inductive Event where
  /-- The host writes a byte at an offset (R43). -/
  | hostWrite (offset : Offset) (value : Byte)
  /-- The host reads the byte at an offset (R42). -/
  | hostRead (offset : Offset)
  /-- The link partner delivers a non-empty byte sequence (R47). -/
  | deliver (first : Byte) (more : List Byte)
  /-- The engine's turn: its enabled step, if it has one (R108). -/
  | engine
  /-- The platform resets the block (R151). -/
  | reset
deriving DecidableEq, Repr

/-- The machine's state. -/
structure State where
  /-- STATE (R16). -/
  state : EngineState
  /-- RETRIED (R19). -/
  retried : Bool
  /-- REJ (R20). -/
  rej : Bool
  /-- RESULT (R25). -/
  result : ResultCode
  /-- REQ_TC, REQ_IID, REQ_RC, REQ_FLAGS (R21). -/
  reqTc : Byte
  reqIid : Byte
  reqRc : Byte
  reqFlags : Byte
  /-- X_TC, X_IID, X_RC, X_EXP (R22). -/
  xTc : Byte
  xIid : Byte
  xRc : Byte
  xExp : Bool
  /-- SEQ (R23). -/
  seq : Byte
  /-- CTR (R24). -/
  ctr : Half
  /-- RESP_SEQ (R26). -/
  respSeq : Byte
  /-- RESP_LEN (R27). -/
  respLen : Byte
  /-- RESP_BUF (R28): RESP_BUF_SIZE bytes. -/
  respBuf : List Byte
  /-- CRC_ACC (R29). -/
  crcAcc : Half
  /-- CRC_DATA (R30). -/
  crcData : Byte
  /-- RSP_PHASE (R32). -/
  rspPhase : RspPhase
  /-- FRAME_BUF (R32). -/
  frameBuf : List Byte
  /-- RX (R33), its head the oldest byte. -/
  rx : List Byte
  /-- TX (R34), its head the first byte sent since reset. -/
  tx : List Byte
  /-- The MODEL's own: the events to come, in their total order (R53; log 1). Any list is admitted. -/
  agenda : List Event
  /-- The MODEL's own: what host reads returned, oldest first (log 13). Appended to and never read back. -/
  hostReads : List Byte
deriving DecidableEq, Repr

/-- What stops the machine. No rule of the spec is a fault (60_exceptions.md: no processor traps). -/
inductive Fault where
  /-- Raised by the body phase of the response read when FRAME_BUF has no byte 3 (R102 reads FRAME_BUF[3]). No run reaches such a state
  (R32: in that phase FRAME_BUF holds the 8 header bytes). Safe: the model stops where the spec says nothing (log 11). -/
  | bodyWithoutHeader
deriving DecidableEq, Repr

/-- What has no meaning. -/
inductive Refusal where
  /-- An instruction whose meaning is not written; raised by an arm of `exec` only. Safe. No arm raises it. -/
  | notModelled (mnemonic : String)
  /-- Raised by a delivery that does not fit a finite RX_CAP, whose overflow "is not defined" (I6). Safe; with the spec's RX_CAP
  (unbounded) it is never raised (log 15). -/
  | rxOverflow
deriving DecidableEq, Repr

/-- The outcome of a step of this machine. -/
abbrev Outcome := Host.Outcome State Fault Refusal

/-- The values of R36; TX is an empty history, and no event is to come. -/
def State.reset : State where
  state := .idle
  retried := false
  rej := false
  result := .none
  reqTc := 0x00
  reqIid := 0x00
  reqRc := 0x00
  reqFlags := 0x00
  xTc := 0x00
  xIid := 0x00
  xRc := 0x00
  xExp := false
  seq := 0x00
  ctr := 0x0000
  respSeq := 0x00
  respLen := 0x00
  respBuf := List.replicate config.respBufSize 0x00
  crcAcc := config.crc.init
  crcData := 0x00
  rspPhase := .hdr
  frameBuf := []
  rx := []
  tx := []
  agenda := []
  hostReads := []

end Sys2Proof.Machine
end

