-- ==== Sys2Proof/Machine/Flags.lean ====
section
/-! DEFINITION. The flags: the codes of STATE and RESULT (R16, R136), BUSY (R17) and the STATUS view (R18). -/

namespace Sys2Proof.Machine

/-- The code of STATE (R16). -/
def stateCode : EngineState → BitVec 4
  | .idle => 0x0
  | .draining => 0x1
  | .awaitingAck => 0x2
  | .retrySend => 0x3
  | .awaitingResponse => 0x4
  | .sendingResponseAck => 0x5
  | .drainingTrailing => 0x6
  | .done => 0x7
  | .failed => 0x8

/-- The code of RESULT (R136). -/
def resultByte : ResultCode → Byte
  | .none => 0x00
  | .ok => 0x01
  | .commFailure => 0x02
  | .frameCorrupt => 0x03
  | .sequenceMismatch => 0x04
  | .payloadMismatch => 0x05
  | .unknownFrameKind => 0x06
  | .aborted => 0x07

/-- BUSY as a function of STATE (R17). -/
def isBusy : EngineState → Bool
  | .idle => false
  | .draining => true
  | .awaitingAck => true
  | .retrySend => true
  | .awaitingResponse => true
  | .sendingResponseAck => true
  | .drainingTrailing => true
  | .done => false
  | .failed => false

/-- BUSY (R17): derived, not stored. -/
def busy (s : State) : Bool := isBusy s.state

/-- One bit of a byte. -/
def bitAt (b : Bool) (k : Nat) : Byte := if b then 1 <<< k else 0

/-- STATUS (R18): STATE in bits 3:0, BUSY, RETRIED, REJ, and bit 7 zero. -/
def statusByte (s : State) : Byte :=
  (stateCode s.state).setWidth 8 ||| bitAt (busy s) 4 ||| bitAt s.retried 5 ||| bitAt s.rej 6

/-- EXPECTS_RESPONSE, bit 0 of REQ_FLAGS (R21). -/
def expectsResponse (s : State) : Bool := s.reqFlags.getLsbD 0

/-- The defined bit of REQ_FLAGS; the reserved bits read 0 and are not written (R21, R37, R43; log 21). -/
def flagsMask (v : Byte) : Byte := v &&& 0x01

end Sys2Proof.Machine
end

