-- ==== Sys2Proof/Machine/Ops.lean ====
section
/-! DEFINITION. The named operations over the state: the host register map (R35 to R37, R42, R43), the streams (R47 to R50), the counters (R131),
the end of an exchange (R137: the block's one "trap entry") and its beginning (R109: what stands in place of a return, R143). -/

namespace Sys2Proof.Machine

/-- The offsets of the host register map (R35). -/
def offCmd : Offset := 0x0000
def offStatus : Offset := 0x0001
def offResult : Offset := 0x0002
def offReqTc : Offset := 0x0003
def offReqIid : Offset := 0x0004
def offReqRc : Offset := 0x0005
def offReqFlags : Offset := 0x0006
def offSeq : Offset := 0x0007
def offCtrLo : Offset := 0x0008
def offCtrHi : Offset := 0x0009
def offRespSeq : Offset := 0x000A
def offRespLen : Offset := 0x000B
def offCrcData : Offset := 0x000C
def offCrcLo : Offset := 0x000D
def offCrcHi : Offset := 0x000E
def offRespBuf : Offset := 0x0100

/-- A read of RESP_BUF[i] (R28, R42): a byte at RESP_LEN or above reads 0. -/
def readRespBuf (s : State) (i : Nat) : Byte := if i < s.respLen.toNat then s.respBuf.getD i 0x00 else 0x00

/-- A host read of an offset (R35, R42): CMD and every unmapped offset read 0 (R31, R37). -/
def readReg (s : State) (o : Offset) : Byte :=
  if o = offCmd then 0x00
  else if o = offStatus then statusByte s
  else if o = offResult then resultByte s.result
  else if o = offReqTc then s.reqTc
  else if o = offReqIid then s.reqIid
  else if o = offReqRc then s.reqRc
  else if o = offReqFlags then flagsMask s.reqFlags
  else if o = offSeq then s.seq
  else if o = offCtrLo then lo s.ctr
  else if o = offCtrHi then hi s.ctr
  else if o = offRespSeq then s.respSeq
  else if o = offRespLen then s.respLen
  else if o = offCrcData then s.crcData
  else if o = offCrcLo then lo s.crcAcc
  else if o = offCrcHi then hi s.crcAcc
  else if offRespBuf.toNat ≤ o.toNat ∧ o.toNat < offRespBuf.toNat + config.respBufSize then
    readRespBuf s (o.toNat - offRespBuf.toNat)
  else 0x00

/-- A host write of a register other than CMD (R43): SEQ and CTR only while BUSY = 0; a read-only or unmapped offset changes nothing. A write
of CMD runs a command (R44) and is no register write: the port holds nothing (R31). -/
def writeReg (s : State) (o : Offset) (v : Byte) : State :=
  if o = offReqTc then { s with reqTc := v }
  else if o = offReqIid then { s with reqIid := v }
  else if o = offReqRc then { s with reqRc := v }
  else if o = offReqFlags then { s with reqFlags := flagsMask v }
  else if o = offSeq then (if busy s then s else { s with seq := v })
  else if o = offCtrLo then (if busy s then s else { s with ctr := pair (hi s.ctr) v })
  else if o = offCtrHi then (if busy s then s else { s with ctr := pair v (lo s.ctr) })
  else if o = offCrcData then { s with crcData := v }
  else s

/-- A host read (R42): it changes nothing of the block; the model records the byte (log 13). -/
def hostRead (s : State) (o : Offset) : State := { s with hostReads := s.hostReads ++ [readReg s o] }

/-- Room in RX for `n` more bytes (RX_CAP, D8). -/
def rxFits (cfg : Config) (s : State) (n : Nat) : Bool :=
  match cfg.rxCap with
  | none => true
  | some cap => decide (s.rx.length + n ≤ cap)

/-- A link delivery (R47): the bytes go to the tail of RX, in any STATE. -/
def deliver (cfg : Config) (s : State) (d : List Byte) : Outcome :=
  if rxFits cfg s d.length then .next { s with rx := s.rx ++ d } else .refused .rxOverflow

/-- `RxTake(n)` as an effect (R10, R49): RX without its first `n` bytes; the bytes themselves are `s.rx.take n`. -/
def rxDrop (s : State) (n : Nat) : State := { s with rx := s.rx.drop n }

/-- `TxSend(f)` (R50). -/
def txSend (s : State) (f : List Byte) : State := { s with tx := s.tx ++ f }

/-- `advance` (R131): SEQ and CTR each go up by one and wrap on their own. -/
def advance (s : State) : State := { s with seq := incr config.seqWidth s.seq, ctr := incr config.ctrWidth s.ctr }

/-- The result code of an error (R136). -/
def codeOf : FrameError → ResultCode
  | .frameCorrupt => .frameCorrupt
  | .sequenceMismatch => .sequenceMismatch
  | .payloadMismatch => .payloadMismatch
  | .unknownFrameKind => .unknownFrameKind

/-- `finish(r)` (R137), the end of every exchange. -/
def finish (s : State) (r : ResultCode) : State :=
  advance { s with
    result := r
    respLen := if r = .ok then s.respLen else 0x00
    frameBuf := []
    rspPhase := .hdr
    state := if r = .ok then .done else .failed }

/-- The accepted START (R109): latch the descriptor, clear the result, go to DRAINING. -/
def beginExchange (s : State) : State :=
  { s with
    xTc := s.reqTc
    xIid := s.reqIid
    xRc := s.reqRc
    xExp := expectsResponse s
    retried := false
    rej := false
    result := .none
    respSeq := 0x00
    respLen := 0x00
    rspPhase := .hdr
    frameBuf := []
    state := .draining }

/-- The request frame of the exchange in flight (R88): SEQ, CTR and the latches. -/
def requestBytes (s : State) : List Byte := encodeRequest config s.seq s.ctr s.xTc s.xIid s.xRc

/-- `ack_success` (R113). -/
def ackSuccess (s : State) : State :=
  if s.xExp then { s with rspPhase := .hdr, frameBuf := [], state := .awaitingResponse }
  else { s with state := .drainingTrailing }

/-- Transition 2's send (R111). -/
def sendRequest (s : State) (f : List Byte) : State := { txSend s f with state := .awaitingAck }

/-- Transition 3's second send (R114). -/
def resendRequest (s : State) (f : List Byte) : State := { txSend s f with retried := true, state := .retrySend }

/-- Transition 7's send (R119). -/
def sendAck (s : State) (f : List Byte) : State := { txSend s f with state := .drainingTrailing }

/-- Write the response fields into RESP_BUF (R118): the bytes above them keep their old values. -/
def storeFields (buf fields : List Byte) : List Byte := fields ++ buf.drop fields.length

/-- A decoded response (R118). RSP_PHASE is left as it is (log 12). -/
def acceptResponse (s : State) (r : Response) : State :=
  { s with
    respSeq := r.echoSeq
    respBuf := storeFields s.respBuf r.fields
    respLen := BitVec.ofNat 8 r.fields.length
    frameBuf := []
    state := .sendingResponseAck }

/-- A reset (R151): every element of the block at its reset value. The events to come and the record of host reads are not the block's
(log 17). -/
def resetBlock (s : State) : State := { State.reset with agenda := s.agenda, hostReads := s.hostReads }

end Sys2Proof.Machine
end

