-- ==== Sys2Proof/Machine/Commands.lean ====
section
/-! DEFINITION. The five commands of the CMD port (R73), one meaning each. -/

namespace Sys2Proof.Machine

/-- NOP (R85). -/
def execNop (s : State) : Outcome := .next s

/-- CRC_INIT (R83): in any STATE. -/
def execCrcInit (s : State) : Outcome := .next { s with crcAcc := config.crc.init }

/-- CRC_UPDATE (R84): in any STATE; CRC_DATA stays. -/
def execCrcUpdate (s : State) : Outcome := .next { s with crcAcc := crcStep config.crc s.crcAcc s.crcData }

/-- START (R109): ignored with REJ set while BUSY = 1. -/
def execStart (s : State) : Outcome := .next (if busy s then { s with rej := true } else beginExchange s)

/-- ABORT (R124): no effect while BUSY = 0. -/
def execAbort (s : State) : Outcome := .next (if busy s then finish s .aborted else s)

end Sys2Proof.Machine
end

