-- ==== Sys2Proof/Syntax.lean ====
section
/-! DEFINITION. The instructions: one constructor per row of spec/opcode_table.json, five commands (R73) and six frame kinds
(R64 to R70). A frame's operands are the bytes its row leaves free, the CRC fields among them. -/

namespace Sys2Proof

/-- The free bytes of a received ACK or retry-ACK frame (R64, R65). The trailer is a field because the row's mask does not cover it
and the decoder of R91 checks it. -/
structure AckFrame where
  seq : Byte
  hcrc : Half
  trailer0 : Byte
  trailer1 : Byte
deriving DecidableEq, Repr

/-- The free bytes of a response-ack the block sends (R64, R89). -/
structure SentAck where
  seq : Byte
  hcrc : Half
deriving DecidableEq, Repr

/-- The free bytes of a request frame (R66, R67). -/
structure RequestFrame where
  seq : Byte
  hcrc : Half
  targetClass : Byte
  instanceId : Byte
  counter : Half
  requestCode : Byte
  pcrc : Half
deriving DecidableEq, Repr

/-- The free bytes of a received Message frame (R66, R68): the length, the sequence, the payload with its echo header, and both CRCs. -/
structure MessageFrame where
  len : Byte
  seq : Byte
  hcrc : Half
  payload : List Byte
  pcrc : Half
deriving DecidableEq, Repr

/-- The instructions of spec/opcode_table.json. -/
inductive Instr where
  /-- NOP, command 0x00 (R85). -/
  | nop
  /-- CRC_INIT, command 0x01 (R83). -/
  | crcInit
  /-- CRC_UPDATE, command 0x02 (R84). -/
  | crcUpdate
  /-- START, command 0x10 (R109). -/
  | start
  /-- ABORT, command 0x11 (R124). -/
  | abort
  /-- ACK: the engine meets an ACK frame at the head of RX (R64, R91). -/
  | ack (f : AckFrame)
  /-- RESPONSE_ACK: the block sends an ACK frame (R89, R119). -/
  | responseAck (f : SentAck)
  /-- RETRY_ACK: the engine meets a retry-ACK frame at the head of RX (R65, R91). -/
  | retryAck (f : AckFrame)
  /-- MESSAGE_REQUEST: the block sends a request frame (R67, R88). -/
  | messageRequest (f : RequestFrame)
  /-- MESSAGE_RESPONSE: the engine meets a Message frame at the head of what it reads (R68, R93). -/
  | messageResponse (f : MessageFrame)
  /-- CONTROL: the engine meets a Control frame at the head of RX; the opaque bytes are its operand (R69). -/
  | control (body : List Byte)
deriving DecidableEq, Repr

/-- Where an instruction's words stand: the command port, the receive stream or the transmit stream (R46). ACK and RESPONSE_ACK share
their words, and so do MESSAGE_REQUEST and a MESSAGE_RESPONSE of length 8; the channel tells them apart (log 5). -/
inductive Channel where
  | command
  | receive
  | send
deriving DecidableEq, Repr

/-- The channel of each row. -/
def Instr.channel : Instr → Channel
  | .nop => .command
  | .crcInit => .command
  | .crcUpdate => .command
  | .start => .command
  | .abort => .command
  | .ack _ => .receive
  | .responseAck _ => .send
  | .retryAck _ => .receive
  | .messageRequest _ => .send
  | .messageResponse _ => .receive
  | .control _ => .receive

end Sys2Proof
end

