-- ==== Sys2Proof/WellFormed.lean ====
section
/-! DEFINITION. Which terms of `Instr` are instructions: the lengths a row's encoding gives its operands (R61, R66, R69), and for the frames
the block itself builds the CRCs of the Frame Codec (R88, R89). A received frame may carry any CRC and any trailer: its meaning
checks them. -/

namespace Sys2Proof

/-- Why a term is no instruction. -/
inductive IllFormed where
  /-- A Message frame whose payload is not as long as its length byte says (R61). -/
  | payloadLength
  /-- A Control frame that is not CTRL_LEN bytes (R69). -/
  | bodyLength
  /-- A sent frame whose header CRC is not the Frame Codec's (R62). -/
  | headerCrc
  /-- A sent request whose payload CRC is not the Frame Codec's (R63). -/
  | payloadCrc
deriving DecidableEq, Repr

/-- The number of opaque bytes of a Control frame: all but the sync and the marker (R69). -/
def ctrlBodyLen (cfg : Config) : Nat := cfg.ctrlLen - 5

/-- The check of one instruction, by name. -/
def Instr.check : Instr → Except IllFormed Unit
  | .nop => .ok ()
  | .crcInit => .ok ()
  | .crcUpdate => .ok ()
  | .start => .ok ()
  | .abort => .ok ()
  | .ack _ => .ok ()
  | .responseAck f => if f.hcrc = Machine.crc16 (Machine.ackHeader config f.seq) then .ok () else .error .headerCrc
  | .retryAck _ => .ok ()
  | .messageRequest f =>
    if f.hcrc ≠ Machine.crc16 (Machine.requestHeader config f.seq) then .error .headerCrc
    else if f.pcrc ≠ Machine.crc16 (Machine.requestPayload config f.counter f.targetClass f.instanceId f.requestCode) then
      .error .payloadCrc
    else .ok ()
  | .messageResponse f => if f.payload.length = f.len.toNat then .ok () else .error .payloadLength
  | .control body => if body.length = ctrlBodyLen config then .ok () else .error .bodyLength

/-- Well-formed: the check passes. -/
def Instr.wf (i : Instr) : Bool := i.check == .ok ()

end Sys2Proof
end

