-- ==== Sys2Proof/Decode.lean ====
section
/-! DEFINITION. The decoder and the encoder of every row: the command word (R73, R74) and the frames (R58 to R71, R77). A frame row is selected
by its match and mask over the leading bytes (R77); the bytes the mask leaves free are operands. Total on any bytes; what is no
instruction is rejected by name. -/

namespace Sys2Proof

open Machine

/-- Why bytes are no instruction. -/
inductive DecodeError where
  /-- More bytes are needed to tell, or to have the whole frame. -/
  | short
  /-- A reserved opcode, 0x03 to 0x0F or 0x12 to 0xFF (R74): the write changes nothing. -/
  | reservedOpcode
  /-- The bytes do not start with the sync marker (R59). -/
  | notSync
  /-- The byte at offset 2 is no frame kind (R70). -/
  | unknownKind
  /-- A byte the row fixes has another value (R60, R67, R69). -/
  | fixedField
deriving DecidableEq, Repr

/-- What a decode answers: the instruction and the bytes behind it. -/
abbrev Decoded := Except DecodeError (Instr × List Byte)

/-- The command word (R73, R74). -/
def decodeCommand (v : Byte) : Except DecodeError Instr :=
  if v = opNop then .ok .nop
  else if v = opCrcInit then .ok .crcInit
  else if v = opCrcUpdate then .ok .crcUpdate
  else if v = opStart then .ok .start
  else if v = opAbort then .ok .abort
  else .error .reservedOpcode

/-- The rows ACK and RETRY_ACK behind their sync and kind (R64, R65). -/
def decodeAckRow (cfg : Config) (mk : AckFrame → Instr) (b : List Byte) : Decoded :=
  if b.length < cfg.ackLen then .error .short
  else if at_ b 3 ≠ 0x00 ∨ at_ b 4 ≠ 0x00 then .error .fixedField
  else .ok (mk { seq := at_ b 5, hcrc := rd16 b 6, trailer0 := at_ b 8, trailer1 := at_ b 9 }, b.drop cfg.ackLen)

/-- The row MESSAGE_RESPONSE behind its sync and kind (R66, R72: the total length is computed without wrap). -/
def decodeMessageRow (cfg : Config) (b : List Byte) : Decoded :=
  if b.length < cfg.headerLen then .error .short
  else if at_ b 4 ≠ 0x00 then .error .fixedField
  else
    let len := (at_ b 3).toNat
    if b.length < cfg.frameOverhead + len then .error .short
    else .ok (.messageResponse
      { len := at_ b 3, seq := at_ b 5, hcrc := rd16 b 6,
        payload := span b cfg.headerLen len, pcrc := rd16 b (cfg.headerLen + len) }, b.drop (cfg.frameOverhead + len))

/-- The row CONTROL behind its sync and the first marker byte (R69). Its opaque bytes are those before and behind the marker; with the
marker at offset 2 there are none before it (log 16). -/
def decodeControlRow (cfg : Config) (b : List Byte) : Decoded :=
  let k := cfg.ctrlMarkerOffset
  if b.length < cfg.ctrlLen then .error .short
  else if at_ b (k + 1) ≠ cfg.ctrlMarker1 ∨ at_ b (k + 2) ≠ cfg.ctrlMarker2 then .error .fixedField
  else .ok (.control (span b 2 (k - 2) ++ span b (k + 3) (cfg.ctrlLen - (k + 3))), b.drop cfg.ctrlLen)

/-- A frame the engine receives, by the byte at offset 2 (R70). -/
def decodeReceive (cfg : Config) (b : List Byte) : Decoded :=
  if b.length < 3 then .error .short
  else if !syncOk cfg b then .error .notSync
  else if at_ b 2 = cfg.ackKind then decodeAckRow cfg .ack b
  else if at_ b 2 = cfg.retryKind then decodeAckRow cfg .retryAck b
  else if at_ b 2 = cfg.msgKind then decodeMessageRow cfg b
  else if b.length ≤ cfg.ctrlMarkerOffset then .error .short
  else if at_ b cfg.ctrlMarkerOffset = cfg.ctrlMarker0 then decodeControlRow cfg b
  else .error .unknownKind

/-- The row RESPONSE_ACK behind its sync and kind (R64, R89). -/
def decodeSentAckRow (cfg : Config) (b : List Byte) : Decoded :=
  if b.length < cfg.ackLen then .error .short
  else if at_ b 3 ≠ 0x00 ∨ at_ b 4 ≠ 0x00 ∨ at_ b 8 ≠ 0xFF ∨ at_ b 9 ≠ 0xFF then .error .fixedField
  else .ok (.responseAck { seq := at_ b 5, hcrc := rd16 b 6 }, b.drop cfg.ackLen)

/-- The row MESSAGE_REQUEST behind its sync and kind (R67, R88). -/
def decodeRequestRow (cfg : Config) (b : List Byte) : Decoded :=
  if b.length < cfg.frameOverhead + cfg.reqPayloadLen.toNat then .error .short
  else if at_ b 3 ≠ cfg.reqPayloadLen ∨ at_ b 4 ≠ 0x00 ∨ at_ b 8 ≠ cfg.msgKind ∨ at_ b 10 ≠ 0x01 ∨ at_ b 11 ≠ 0x00 then
    .error .fixedField
  else .ok (.messageRequest
    { seq := at_ b 5, hcrc := rd16 b 6, targetClass := at_ b 9, instanceId := at_ b 12, counter := rd16 b 13,
      requestCode := at_ b 15, pcrc := rd16 b 16 }, b.drop (cfg.frameOverhead + cfg.reqPayloadLen.toNat))

/-- A frame the block sends: a response-ack or a request (R50). -/
def decodeSend (cfg : Config) (b : List Byte) : Decoded :=
  if b.length < 3 then .error .short
  else if !syncOk cfg b then .error .notSync
  else if at_ b 2 = cfg.ackKind then decodeSentAckRow cfg b
  else if at_ b 2 = cfg.msgKind then decodeRequestRow cfg b
  else .error .unknownKind

/-- The decoder of each channel. -/
def decode : Channel → List Byte → Decoded
  | .command, [] => .error .short
  | .command, v :: rest => (decodeCommand v).map fun i => (i, rest)
  | .receive, b => decodeReceive config b
  | .send, b => decodeSend config b

/-- The bytes of an ACK or retry-ACK frame (R64, R65). -/
def encodeAckFrame (cfg : Config) (kind : Byte) (f : AckFrame) : List Byte :=
  sync cfg ++ [kind, 0x00, 0x00, f.seq] ++ le16 f.hcrc ++ [f.trailer0, f.trailer1]

/-- The eight header bytes of a Message frame (R66). -/
def encodeMessageHeader (cfg : Config) (f : MessageFrame) : List Byte :=
  sync cfg ++ [cfg.msgKind, f.len, 0x00, f.seq] ++ le16 f.hcrc

/-- The bytes of a Message frame (R66). -/
def encodeMessageFrame (cfg : Config) (f : MessageFrame) : List Byte :=
  encodeMessageHeader cfg f ++ f.payload ++ le16 f.pcrc

/-- The bytes of a Control frame (R69). -/
def encodeControlFrame (cfg : Config) (body : List Byte) : List Byte :=
  sync cfg ++ body.take (cfg.ctrlMarkerOffset - 2) ++ [cfg.ctrlMarker0, cfg.ctrlMarker1, cfg.ctrlMarker2]
    ++ body.drop (cfg.ctrlMarkerOffset - 2)

/-- The bytes of a sent response-ack with the CRC field as given (R64). -/
def encodeSentAck (cfg : Config) (f : SentAck) : List Byte :=
  sync cfg ++ ackHeader cfg f.seq ++ le16 f.hcrc ++ [0xFF, 0xFF]

/-- The bytes of a request frame with the CRC fields as given (R66, R67). -/
def encodeRequestFrame (cfg : Config) (f : RequestFrame) : List Byte :=
  sync cfg ++ requestHeader cfg f.seq ++ le16 f.hcrc
    ++ requestPayload cfg f.counter f.targetClass f.instanceId f.requestCode ++ le16 f.pcrc

/-- The bytes of an instruction, from the encodings of R64 to R69 and R73. -/
def encode : Instr → List Byte
  | .nop => [opNop]
  | .crcInit => [opCrcInit]
  | .crcUpdate => [opCrcUpdate]
  | .start => [opStart]
  | .abort => [opAbort]
  | .ack f => encodeAckFrame config config.ackKind f
  | .responseAck f => encodeSentAck config f
  | .retryAck f => encodeAckFrame config config.retryKind f
  | .messageRequest f => encodeRequestFrame config f
  | .messageResponse f => encodeMessageFrame config f
  | .control body => encodeControlFrame config body

/-- The bytes a table word gives: byte 0 its least significant, or, where that does not start with the sync marker and the other order does,
the order in which R77 writes a frame row's match (offset 0 the most significant byte) (log 6). -/
def wordBytes (nbits w : Nat) : List Byte :=
  let b := bytesOfNat w ((nbits + 7) / 8)
  let r := b.reverse.dropWhile (· == 0x00)
  if !syncOk config b && syncOk config r then r else b

/-- What follows the bytes a table word gives: zeros, but where they are the five leading bytes of the row MESSAGE_REQUEST, first the row's own
bytes up to the last one it fixes (R67; log 6). -/
def rowTail (b : List Byte) : List Byte :=
  if b = (sync config ++ requestHeader config 0x00).dropLast then [0x00, 0x00, 0x00, config.msgKind, 0x00, 0x01, 0x00] else []

/-- The bytes of a table word, filled with zeros up to the longest frame. -/
def tableBytes (nbits w : Nat) : List Byte :=
  let b := wordBytes nbits w
  b ++ rowTail b ++ List.replicate (config.maxFrameLen - b.length) 0x00

/-- The instruction of a frame row's word. A word with every fixed byte of a request is the row MESSAGE_REQUEST; any other is read as a received
frame. The rows ACK and RESPONSE_ACK have the same words, which read as ACK (log 5). -/
def decodeTableFrame (b : List Byte) : Decoded :=
  if syncOk config b ∧ at_ b 2 = config.msgKind then
    match decodeRequestRow config b with
    | .ok r => .ok r
    | .error _ => decodeReceive config b
  else decodeReceive config b

/-- The instruction the decoder reads from a word of spec/opcode_table.json: a command for at most 8 bits, a frame for more. -/
def decodeTableWord (nbits w : Nat) : Option Instr :=
  if nbits ≤ 8 then (decodeCommand (byteOfNat w 0)).toOption
  else (decodeTableFrame (tableBytes nbits w)).toOption.map Prod.fst

end Sys2Proof
end

