-- ==== Sys2Proof/Machine/Link.lean ====
section
/-! DEFINITION. The Link Reader: 42_link_reader.md rules R98 to R106. Each operation is the engine's turn in a state that reads RX. -/

namespace Sys2Proof.Machine

/-- What the engine's turn comes to (R11, R108). -/
inductive Turn where
  /-- The engine's one enabled step, to this state. -/
  | stepped (s : State)
  /-- A hold (R99, R104): no step until a delivery or ABORT. -/
  | hold
  /-- IDLE, DONE or FAILED (R125): no step until START. -/
  | quiescent
  /-- A state in which a rule reads what is not there (log 11). -/
  | stuck (r : Fault)
deriving DecidableEq, Repr

/-- A turn as an outcome of the machine: a hold and a quiescent state change nothing (R150; log 2). -/
def Turn.outcome (t : Turn) (s : State) : Outcome :=
  match t with
  | .stepped s' => .next s'
  | .hold => .next s
  | .quiescent => .next s
  | .stuck r => .fault r

/-- What `classify` finds at the head of a byte sequence (R103). -/
inductive HeadKind where
  | need (k : Nat)
  | len (t : Nat)
  | unknown
deriving DecidableEq, Repr

/-- `classify` (R103): kind and total length of the head frame; nothing beyond sync, kind and control marker is checked. -/
def classify (cfg : Config) (b : List Byte) : HeadKind :=
  if b.length < 3 then .need 3
  else if !syncOk cfg b then .unknown
  else if at_ b 2 = cfg.ackKind then .len cfg.ackLen
  else if at_ b 2 = cfg.retryKind then (if cfg.drainRetryAsAck then .len cfg.ackLen else .unknown)
  else if at_ b 2 = cfg.msgKind then
    (if b.length < 4 then .need 4 else .len (cfg.frameOverhead + (at_ b 3).toNat))
  else if b.length ≤ cfg.ctrlMarkerOffset then .need (cfg.ctrlMarkerOffset + 1)
  else if at_ b cfg.ctrlMarkerOffset = cfg.ctrlMarker0 then
    (if b.length < cfg.ctrlMarkerOffset + 3 then .need (cfg.ctrlMarkerOffset + 3)
     else if at_ b (cfg.ctrlMarkerOffset + 1) = cfg.ctrlMarker1 ∧ at_ b (cfg.ctrlMarkerOffset + 2) = cfg.ctrlMarker2 then
       .len cfg.ctrlLen
     else .unknown)
  else .unknown

/-- `drain_step` with RX non-empty (R104): drop the head frame, hold for the rest of it, or end with UnknownFrameKind, RX as it was. -/
def drainTurn (s : State) : Turn :=
  match classify config s.rx with
  | .unknown => .stepped (finish s (codeOf .unknownFrameKind))
  | .need _ => .hold
  | .len t => if s.rx.length < t then .hold else .stepped (rxDrop s t)

/-- `read_exact(n)` (R99) with what follows it in the same atomic step: `k` gets the bytes and the state without them. -/
def readExact (n : Nat) (s : State) (k : List Byte → State → Turn) : Turn :=
  if s.rx.length < n then .hold else k (s.rx.take n) (rxDrop s n)

/-- The header phase of the response read (R102, R117). -/
def headerTurn (s : State) : Turn :=
  readExact config.headerLen s fun h s =>
    if msgHeaderOk config h then .stepped { s with frameBuf := h, rspPhase := .body }
    else .stepped (finish s .frameCorrupt)

/-- The number of bytes the body phase waits for: the payload and its CRC (R102). -/
def bodyLen (header : List Byte) : Nat := (at_ header 3).toNat + 2

/-- The body phase of the response read, with the decode (R102, R118). -/
def bodyTurn (s : State) : Turn :=
  if s.frameBuf.length < 4 then .stuck .bodyWithoutHeader
  else
    readExact (bodyLen s.frameBuf) s fun b s =>
      match decodeMessage config (s.frameBuf ++ b) s.ctr s.xTc s.xIid s.xRc with
      | .error e => .stepped (finish s (codeOf e))
      | .ok r => .stepped (acceptResponse s r)

end Sys2Proof.Machine
end

