-- ==== Sys2Proof/Machine/Engine.lean ====
section
/-! DEFINITION. The Protocol Engine: 43_protocol_engine.md rules R108 to R128, one turn on the raw streams. -/

namespace Sys2Proof.Machine

/-- The ack read and its decode (R100, R112, R115): `onRetry` is what a retry-ACK leads to in the state that reads it. -/
def ackTurn (onRetry : State → State) (s : State) : Turn :=
  readExact config.ackLen s fun a s =>
    match decodeAck config a s.seq with
    | .error e => .stepped (finish s (codeOf e))
    | .ok false => .stepped (ackSuccess s)
    | .ok true => .stepped (onRetry s)

/-- The first retry-ACK (R114): the request goes out again, byte for byte, if MAX_ACK_ATTEMPTS leaves a second attempt (log 24). -/
def firstRetry (s : State) : State :=
  if 1 < config.maxAckAttempts then resendRequest s (requestBytes s) else finish s .commFailure

/-- The second retry-ACK (R116): no state holds a third attempt. -/
def secondRetry (s : State) : State := finish s .commFailure

/-- The engine's turn in a state that reads RX, with RX as it stands (R110, R112, R115, R117, R118, R120). In the other states RX is not
read, and no step of this kind is enabled. -/
def readTurn (s : State) : Turn :=
  match s.state with
  | .idle => .quiescent
  | .draining => drainTurn s
  | .awaitingAck => ackTurn firstRetry s
  | .retrySend => ackTurn secondRetry s
  | .awaitingResponse =>
    match s.rspPhase with
    | .hdr => headerTurn s
    | .body => bodyTurn s
  | .sendingResponseAck => .hold
  | .drainingTrailing => drainTurn s
  | .done => .quiescent
  | .failed => .quiescent

/-- The engine's turn (R108, R128). With RX empty a drain is complete (R105): the request is sent (R111), or the exchange ends with OK (R121). -/
def engineTurn (s : State) : Turn :=
  match s.state with
  | .draining => if s.rx = [] then .stepped (sendRequest s (requestBytes s)) else readTurn s
  | .drainingTrailing => if s.rx = [] then .stepped (finish s .ok) else readTurn s
  | .sendingResponseAck => .stepped (sendAck s (encodeAck config s.respSeq))
  | .idle => .quiescent
  | .awaitingAck => readTurn s
  | .retrySend => readTurn s
  | .awaitingResponse => readTurn s
  | .done => .quiescent
  | .failed => .quiescent

end Sys2Proof.Machine
end

