-- ==== Sys2Proof/Machine/Frames.lean ====
section
/-! DEFINITION. The six frame rows, one meaning each (log 3, log 4). A RECEIVED frame is met by the engine at the head of what it reads, with
`s.rx` the bytes behind it; its meaning is the engine's turn there. A SENT frame goes out on TX in the states in which the block sends it. -/

namespace Sys2Proof.Machine

/-- `b` stands at the head of RX, before the bytes of `s.rx`. -/
def pushFront (b : List Byte) (s : State) : State := { s with rx := b ++ s.rx }

/-- The engine meets the bytes `b` at the head of RX: its turn where it reads RX; elsewhere they wait there (R33, R125; log 3). -/
def receive (b : List Byte) (s : State) : Outcome := (readTurn (pushFront b s)).outcome (pushFront b s)

/-- ACK (R91): an ack read decodes it (R112, R113, R115), a drain drops it (R103), the header check of a response read refuses it
(R117). -/
def execAck (f : AckFrame) (s : State) : Outcome := receive (encodeAckFrame config config.ackKind f) s

/-- RETRY_ACK (R91): the first asks for the request again (R114), the second ends the exchange (R116); in a drain it is an unknown kind
unless DRAIN_RETRY_AS_ACK (R103). -/
def execRetryAck (f : AckFrame) (s : State) : Outcome := receive (encodeAckFrame config config.retryKind f) s

/-- MESSAGE_RESPONSE (R93): in the header phase its 8 header bytes are taken and checked (R117), the rest waits in RX; in the body phase the
header is in FRAME_BUF already, and the rest is taken and the frame decoded (R118). A drain drops it (R103). -/
def execMessageResponse (f : MessageFrame) (s : State) : Outcome :=
  if s.state = .awaitingResponse ∧ s.rspPhase = .body then
    receive (f.payload ++ le16 f.pcrc) { s with frameBuf := encodeMessageHeader config f }
  else receive (encodeMessageFrame config f) s

/-- CONTROL (R69): a drain drops it (R103); an ack read or a response read takes its first bytes and ends with FRAME_CORRUPT (R112, R117). -/
def execControl (body : List Byte) (s : State) : Outcome := receive (encodeControlFrame config body) s

/-- MESSAGE_REQUEST (R88): sent when the stale drain is complete (R111). In every other state the block sends no request of itself (the second
request is part of the step that takes the retry-ACK, R114), and nothing happens (log 4). -/
def execMessageRequest (f : RequestFrame) (s : State) : Outcome :=
  .next (if s.state = .draining ∧ s.rx = [] then
      sendRequest s (encodeRequest config f.seq f.counter f.targetClass f.instanceId f.requestCode)
    else s)

/-- RESPONSE_ACK (R89): sent in SENDING_RESPONSE_ACK (R119); in every other state the block sends none, and nothing happens (log 4). -/
def execResponseAck (f : SentAck) (s : State) : Outcome :=
  .next (if s.state = .sendingResponseAck then sendAck s (encodeAck config f.seq) else s)

end Sys2Proof.Machine
end

