-- ==== Sys2Proof/Machine/Dispatch.lean ====
section
/-! DEFINITION. One arm per row of spec/opcode_table.json. -/

namespace Sys2Proof.Machine

/-- The meaning of each instruction. -/
def exec (i : Instr) (s : State) : Host.Outcome State Fault Refusal :=
  match i with
  | .nop => Sys2Proof.Machine.execNop s
  | .crcInit => Sys2Proof.Machine.execCrcInit s
  | .crcUpdate => Sys2Proof.Machine.execCrcUpdate s
  | .start => Sys2Proof.Machine.execStart s
  | .abort => Sys2Proof.Machine.execAbort s
  | .ack f => Sys2Proof.Machine.execAck f s
  | .responseAck f => Sys2Proof.Machine.execResponseAck f s
  | .retryAck f => Sys2Proof.Machine.execRetryAck f s
  | .messageRequest f => Sys2Proof.Machine.execMessageRequest f s
  | .messageResponse f => Sys2Proof.Machine.execMessageResponse f s
  | .control body => Sys2Proof.Machine.execControl body s

end Sys2Proof.Machine
end

