-- ==== Sys2Proof/Machine/Fetch.lean ====
section
/-! DEFINITION. The next event, the instruction it carries, and what an event without an instruction does. The block has no program counter and no
fetch (R15, R56): its commands come from the host's writes of CMD (R44), and its frames from RX and from its own registers. -/

namespace Sys2Proof.Machine

/-- The event whose turn it is, and the state behind it. With no event to come the engine has its turn (R162: enabled steps are taken;
log 1). -/
def nextEvent (s : State) : Event × State :=
  match s.agenda with
  | [] => (.engine, s)
  | e :: rest => (e, { s with agenda := rest })

/-- The operands of the request the block sends (R88): SEQ, CTR, the latches, and the CRCs over them. -/
def requestOperands (s : State) : RequestFrame where
  seq := s.seq
  hcrc := crc16 (requestHeader config s.seq)
  targetClass := s.xTc
  instanceId := s.xIid
  counter := s.ctr
  requestCode := s.xRc
  pcrc := crc16 (requestPayload config s.ctr s.xTc s.xIid s.xRc)

/-- The operands of the response-ack the block sends (R89, R119): RESP_SEQ and the CRC over the header. -/
def ackOperands (s : State) : SentAck where
  seq := s.respSeq
  hcrc := crc16 (ackHeader config s.respSeq)

/-- A whole frame at the head of RX, and the state with the bytes behind it in RX. -/
def fetchReceived (s : State) : Option (Instr × State) :=
  match decode .receive s.rx with
  | .ok (i, rest) => some (i, { s with rx := rest })
  | .error _ => none

/-- In the body phase the frame being read is FRAME_BUF with the head of RX (R102). -/
def fetchBody (s : State) : Option (Instr × State) :=
  if s.frameBuf.length = config.headerLen then
    match decode .receive (s.frameBuf ++ s.rx) with
    | .ok (.messageResponse f, rest) => some (.messageResponse f, { s with rx := rest })
    | _ => none
  else none

/-- The frame row the engine's turn runs, if it runs one: a frame it reads, whole in RX, or a frame it sends (R111, R119). -/
def fetchFrame (s : State) : Option (Instr × State) :=
  match s.state with
  | .idle => none
  | .draining => if s.rx = [] then some (.messageRequest (requestOperands s), s) else fetchReceived s
  | .awaitingAck => fetchReceived s
  | .retrySend => fetchReceived s
  | .awaitingResponse =>
    match s.rspPhase with
    | .hdr => fetchReceived s
    | .body => fetchBody s
  | .sendingResponseAck => some (.responseAck (ackOperands s), s)
  | .drainingTrailing => fetchReceived s
  | .done => none
  | .failed => none

/-- The command a host write carries: the opcode written to CMD (R31, R44). A reserved opcode carries none (R74). -/
def fetchCommand (o : Offset) (v : Byte) : Option Instr :=
  if o = offCmd then (decodeCommand v).toOption else none

/-- The instruction the next event runs, and the state it runs in. -/
def fetch (s : State) : Option (Instr × State) :=
  match nextEvent s with
  | (.engine, s) => fetchFrame s
  | (.hostWrite o v, s) => (fetchCommand o v).map fun i => (i, s)
  | (.hostRead _, _) => none
  | (.deliver _ _, _) => none
  | (.reset, _) => none

/-- What the next event does where it runs no instruction: a register write, a read, a delivery, a reset, or the engine's turn on bytes that
are no whole frame of a row (R128). -/
def act (s : State) : Outcome :=
  match nextEvent s with
  | (.engine, s) => (engineTurn s).outcome s
  | (.hostWrite o v, s) => .next (writeReg s o v)
  | (.hostRead o, s) => .next (hostRead s o)
  | (.deliver b bs, s) => deliver config s (b :: bs)
  | (.reset, s) => .next (resetBlock s)

/-- The engine reads a frame at the head of RX in this state. -/
def readsHead (s : State) : Bool :=
  match s.state with
  | .idle => false
  | .draining => true
  | .awaitingAck => true
  | .retrySend => true
  | .awaitingResponse => s.rspPhase == .hdr
  | .sendingResponseAck => false
  | .drainingTrailing => true
  | .done => false
  | .failed => false

/-- The state in which the engine's next turn meets a received frame: unchanged if it reads RX already, else the state `st`. -/
def readingState (s : State) (st : EngineState) : State :=
  if readsHead s then s else { s with state := st, rspPhase := .hdr, frameBuf := [] }

/-- The engine's turn next, with the bytes at the head of RX. -/
def engineNext (s : State) (b : List Byte) : State := { s with agenda := .engine :: s.agenda, rx := b ++ s.rx }

/-- Everything the engine needs to run a frame row at its next turn (log 7). A sent frame is built from the registers, so its operands are
placed there; its CRCs are always the Frame Codec's. -/
def placeFrame (i : Instr) (s : State) : State :=
  match i with
  | .ack f => engineNext (readingState s .awaitingAck) (encode (.ack f))
  | .retryAck f => engineNext (readingState s .awaitingAck) (encode (.retryAck f))
  | .messageResponse f => engineNext (readingState s .awaitingResponse) (encode (.messageResponse f))
  | .control body => engineNext (readingState s .draining) (encode (.control body))
  | .responseAck f => { engineNext s [] with state := .sendingResponseAck, respSeq := f.seq }
  | .messageRequest f =>
    { engineNext s [] with
      state := .draining, rx := [], seq := f.seq, ctr := f.counter, xTc := f.targetClass, xIid := f.instanceId, xRc := f.requestCode }
  | .nop => s
  | .crcInit => s
  | .crcUpdate => s
  | .start => s
  | .abort => s

/-- A table word placed where the next step meets it (log 7): a command as the host's next write of CMD, a frame as above, bytes that are
no frame at the head of RX. -/
def placeWord (s : State) (nbits w : Nat) : State :=
  if nbits ≤ 8 then { s with agenda := .hostWrite offCmd (byteOfNat w 0) :: s.agenda }
  else
    match decodeTableFrame (tableBytes nbits w) with
    | .ok (i, _) => placeFrame i s
    | .error _ => engineNext s (tableBytes nbits w)

end Sys2Proof.Machine
end

