-- ==== Sys2Proof/Safety.lean ====
section
/-! DEFINITION. What claims say about runs: the kinds of outcome (R11), the host duties (R160), and the invariant of the states the block
reaches. -/

namespace Sys2Proof.Safety

open Sys2Proof.Machine

/-- How an exchange stands (R11). A refusal is a broken duty below; a hang is a run that holds for ever. -/
inductive Progress where
  /-- The exchange ended with this result (DONE or FAILED). -/
  | completed (r : ResultCode)
  /-- No exchange since reset (IDLE). -/
  | noExchange
  /-- The engine holds: bytes are missing (R99, R104). -/
  | holding
  /-- The engine has an enabled step. -/
  | running
deriving DecidableEq, Repr

/-- How the exchange stands in a state. -/
def progress (s : State) : Progress :=
  match s.state with
  | .idle => .noExchange
  | .done => .completed s.result
  | .failed => .completed s.result
  | .draining => if engineTurn s = .hold then .holding else .running
  | .awaitingAck => if engineTurn s = .hold then .holding else .running
  | .retrySend => if engineTurn s = .hold then .holding else .running
  | .awaitingResponse => if engineTurn s = .hold then .holding else .running
  | .sendingResponseAck => if engineTurn s = .hold then .holding else .running
  | .drainingTrailing => if engineTurn s = .hold then .holding else .running

/-- A hang (R11, R101): a run that never leaves the BUSY states. -/
def Hangs (s : State) : Prop := ∀ n, ∃ t, Sys2Proof.core.run n s = Host.Outcome.next t ∧ busy t = true

/-- The host duties (R160). -/
inductive Duty where
  /-- (a) A START issued while BUSY = 1. -/
  | startWhileBusy
  /-- (b) A START between the three writes of a counter restore (R130). -/
  | startInsideRestore
  /-- (c) A result register read while BUSY = 1. -/
  | resultWhileBusy
deriving DecidableEq, Repr

/-- Which of the three writes of a counter restore (R130) have taken effect in a restore that is under way. -/
structure Restore where
  seq : Bool
  ctrLo : Bool
  ctrHi : Bool
deriving DecidableEq, Repr

/-- No restore is under way. -/
def Restore.none : Restore where
  seq := false
  ctrLo := false
  ctrHi := false

/-- Some of the three writes are made and not all (log 14). -/
def Restore.underWay (m : Restore) : Bool := m.seq || m.ctrLo || m.ctrHi

/-- The restore is over once all three writes are made (log 14). -/
def Restore.close (m : Restore) : Restore := if m.seq && m.ctrLo && m.ctrHi then .none else m

/-- The restore behind a write that takes effect, in any order of the three (log 14). -/
def Restore.write (m : Restore) (o : Offset) : Restore :=
  if o = offSeq then Restore.close { m with seq := true }
  else if o = offCtrLo then Restore.close { m with ctrLo := true }
  else if o = offCtrHi then Restore.close { m with ctrHi := true }
  else m

/-- The restore behind an event: a write while BUSY = 1 is ignored (R43, R156) and is no write of a restore (R130; log 14). -/
def Restore.after (m : Restore) (s : State) : Event → Restore
  | .hostWrite o _ => if busy s then m else m.write o
  | .hostRead _ => m
  | .deliver _ _ => m
  | .engine => m
  | .reset => .none

/-- The result registers of R157: RESULT, RESP_SEQ, RESP_LEN, RESP_BUF, and SEQ and CTR as advanced. -/
def isResultReg (o : Offset) : Bool :=
  o == offResult || o == offRespSeq || o == offRespLen || o == offSeq || o == offCtrLo || o == offCtrHi
    || (decide (offRespBuf.toNat ≤ o.toNat) && decide (o.toNat < offRespBuf.toNat + config.respBufSize))

/-- The duty the next event breaks, if it breaks one (log 14). The block's own behaviour there is defined, and `step` gives it. -/
def breach (m : Restore) (s : State) : Option Duty :=
  match (nextEvent s).1 with
  | .hostWrite o v =>
    if o = offCmd ∧ v = opStart then
      if busy s then some .startWhileBusy else if m.underWay then some .startInsideRestore else none
    else none
  | .hostRead o => if isResultReg o && busy s then some .resultWhileBusy else none
  | .deliver _ _ => none
  | .engine => none
  | .reset => none

/-- What a run under the host duties comes to (R160): the machine's own outcome, or the refusal of the run. -/
inductive Verdict where
  | ran (s : State)
  | stopped
  | dutyBroken (d : Duty)
deriving DecidableEq, Repr

/-- `n` steps, refused at the first broken duty. -/
def dutifulRun : Nat → Restore → State → Verdict
  | 0, _, s => .ran s
  | n + 1, m, s =>
    match breach m s with
    | some d => .dutyBroken d
    | none =>
      match step s with
      | .next t => dutifulRun n (m.after s (nextEvent s).1) t
      | .fault _ => .stopped
      | .refused _ => .stopped

/-- A frame the block may send (R50): a request or a response-ack of the Frame Codec. -/
inductive SentFrame : List Byte → Prop where
  | request (seq : Byte) (ctr : Half) (tc iid rc : Byte) : SentFrame (encodeRequest config seq ctr tc iid rc)
  | ack (seq : Byte) : SentFrame (encodeAck config seq)

/-- TX is whole frames, one behind the other (R50, R51). -/
inductive WholeFrames : List Byte → Prop where
  | nil : WholeFrames []
  | append (t f : List Byte) (ht : WholeFrames t) (hf : SentFrame f) : WholeFrames (t ++ f)

/-- The exchange waits for the body of a response whose header it has taken (R32). -/
def awaitsBody (s : State) : Prop := s.state = .awaitingResponse ∧ s.rspPhase = .body

/-- What holds of every state the block reaches. -/
structure Inv (s : State) : Prop where
  /-- RESP_BUF is an array of RESP_BUF_SIZE bytes (R28). -/
  bufLength : s.respBuf.length = config.respBufSize
  /-- RESP_LEN is 0 to RESP_BUF_SIZE (R27). -/
  lenBound : s.respLen.toNat ≤ config.respBufSize
  /-- RESP_LEN is 0 but from a decoded response to the next START (R27, R137). -/
  lenZero : s.respLen ≠ 0 → s.state = .sendingResponseAck ∨ s.state = .drainingTrailing ∨ s.state = .done
  /-- REQ_FLAGS bits 7:1 are 0 (R21, R43). -/
  flagsReserved : flagsMask s.reqFlags = s.reqFlags
  /-- In the body phase FRAME_BUF holds a header that passed its check (R32, R102). -/
  bodyHeader : awaitsBody s → s.frameBuf.length = config.headerLen ∧ msgHeaderOk config s.frameBuf = true
  /-- FRAME_BUF is empty otherwise (R32, R118, R137). -/
  noHeader : ¬ awaitsBody s → s.frameBuf = []
  /-- RSP_PHASE is HDR before a response header is taken and after the exchange ends (R109, R113, R137). -/
  phaseHdr : s.rspPhase = .body → s.state = .awaitingResponse ∨ s.state = .sendingResponseAck ∨ s.state = .drainingTrailing
  /-- RESULT is NONE from reset and while an exchange is in flight (R25). -/
  resultNone : s.state ≠ .done → s.state ≠ .failed → s.result = .none
  /-- DONE means OK (R136). -/
  resultDone : s.state = .done → s.result = .ok
  /-- FAILED means any other result but NONE (R136). -/
  resultFailed : s.state = .failed → s.result ≠ .ok ∧ s.result ≠ .none
  /-- RETRY_SEND is entered with RETRIED set (R114). -/
  retriedSet : s.state = .retrySend → s.retried = true
  /-- RETRIED is clear until the retry (R109, R114, R151). -/
  retriedClear : s.state = .idle ∨ s.state = .draining ∨ s.state = .awaitingAck → s.retried = false
  /-- REJ is clear in IDLE (R20, R151). -/
  rejIdle : s.state = .idle → s.rej = false
  /-- Only an exchange that expects a response waits for one or acknowledges one (R113, R122). -/
  responseExpected : s.state = .awaitingResponse ∨ s.state = .sendingResponseAck → s.xExp = true
  /-- Without an expected response RESP_LEN and RESP_SEQ stay 0 (R109, R113, R121, R122). -/
  noResponse : s.xExp = false → s.respLen = 0 ∧ s.respSeq = 0
  /-- TX is whole frames of the Frame Codec (R50). -/
  txFrames : WholeFrames s.tx

end Sys2Proof.Safety
end

