-- ==== Sys2Proof/Certificates/Slice0/Obligations.lean ====
section
/-! DEFINITION. The statements for the provers, from the numbered rules of spec/. The terms under `Sys2Proof.Claims` write what a rule says in the
rule's own words, apart from the model's functions. -/

namespace Sys2Proof.Claims

open Sys2Proof.Machine

/-- One round of R81's loop. -/
def shift81 (c : Half) : Half := if c.getLsbD 15 then (c <<< 1) ^^^ 0x1021 else c <<< 1

/-- `crc_step` as R81 writes it. -/
def step81 (c : Half) (x : Byte) : Half := shift81^[8] (c ^^^ (x ++ (0x00 : Byte)))

/-- `crc16` as R80 writes it. -/
def crc80 (b : List Byte) : Half := b.foldl step81 0xFFFF

/-- `le16` as R9 writes it. -/
def le9 (v : Half) : List Byte := [v.extractLsb' 0 8, v.extractLsb' 8 8]

/-- The request frame of R88. -/
def request88 (seq : Byte) (ctr : Half) (tc iid rc : Byte) : List Byte :=
  [0xAA, 0x55, 0x80, 0x08, 0x00, seq] ++ le9 (crc80 [0x80, 0x08, 0x00, seq])
    ++ [0x80, tc, 0x01, 0x00, iid, ctr.extractLsb' 0 8, ctr.extractLsb' 8 8, rc]
    ++ le9 (crc80 [0x80, tc, 0x01, 0x00, iid, ctr.extractLsb' 0 8, ctr.extractLsb' 8 8, rc])

/-- The ACK frame of R64 and, with kind 0x04, the retry-ACK of R65. -/
def ack64 (kind seq : Byte) : List Byte :=
  [0xAA, 0x55, kind, 0x00, 0x00, seq] ++ le9 (crc80 [kind, 0x00, 0x00, seq]) ++ [0xFF, 0xFF]

/-- The header of a Message frame of R66. -/
def header66 (len seq : Byte) : List Byte := [0xAA, 0x55, 0x80, len, 0x00, seq] ++ le9 (crc80 [0x80, len, 0x00, seq])

/-- The response payload of R68. -/
def payload68 (ctr : Half) (tc iid rc : Byte) (fields : List Byte) : List Byte :=
  [0x80, tc, 0x00, 0x01, iid, ctr.extractLsb' 0 8, ctr.extractLsb' 8 8, rc] ++ fields

/-- A Message frame of R66 with a given payload. -/
def message66 (seq : Byte) (payload : List Byte) : List Byte :=
  header66 (BitVec.ofNat 8 payload.length) seq ++ payload ++ le9 (crc80 payload)

/-- The bytes hold a Message frame with a good header and the length it declares, whose payload does not begin with the eight bytes `echo68`. -/
def wrongEcho (b echo68 : List Byte) : Prop :=
  ∃ q payload pcrc, payload.length ≤ 255 ∧ b = header66 (BitVec.ofNat 8 payload.length) q ++ payload ++ le9 pcrc ∧ payload.take 8 ≠ echo68

/-- `classify` as R103 writes it. -/
def classify103 (retryAsAck : Bool) (b : List Byte) : HeadKind :=
  match b with
  | b₀ :: b₁ :: b₂ :: rest =>
    if b₀ ≠ 0xAA ∨ b₁ ≠ 0x55 then .unknown
    else if b₂ = 0x40 then .len 10
    else if b₂ = 0x04 then (if retryAsAck then .len 10 else .unknown)
    else if b₂ = 0x80 then
      match rest with
      | [] => .need 4
      | b₃ :: _ => .len (10 + b₃.toNat)
    else if b₂ = 0x4E then
      match rest with
      | b₃ :: b₄ :: _ => if b₃ = 0x00 ∧ b₄ = 0x53 then .len 25 else .unknown
      | _ => .need 5
    else .unknown
  | _ => .need 3

/-- The five leading bytes of a sequence as one big-endian number (R77). -/
def leading (b : List Byte) : BitVec 40 := at_ b 0 ++ at_ b 1 ++ at_ b 2 ++ at_ b 3 ++ at_ b 4

/-- A received ACK or retry-ACK whose CRC and trailer are those of R64 and R65. -/
def ackValid (kind : Byte) (f : AckFrame) : Prop :=
  f.hcrc = crc16 [kind, 0x00, 0x00, f.seq] ∧ f.trailer0 = 0xFF ∧ f.trailer1 = 0xFF

/-- The state waits for an ACK: STATE is AWAITING_ACK or RETRY_SEND. -/
def awaitsAck (s : State) : Prop := s.state = .awaitingAck ∨ s.state = .retrySend

/-- The state drains: STATE is DRAINING or DRAINING_TRAILING. -/
def drains (s : State) : Prop := s.state = .draining ∨ s.state = .drainingTrailing

/-- The echo header of R68 for the exchange in flight. -/
def echo (s : State) : List Byte := payload68 s.ctr s.xTc s.xIid s.xRc []

/-- The writes of a host that folds bytes into CRC_ACC: CRC_INIT, then CRC_DATA and CRC_UPDATE for each. -/
def crcScript (b : List Byte) : List Event :=
  .hostWrite 0x0000 0x01 :: b.flatMap fun x => [.hostWrite 0x000C x, .hostWrite 0x0000 0x02]

/-- A START and an ABORT, `k` times: `k` exchanges that end. -/
def abortedExchanges : Nat → List Event
  | 0 => []
  | k + 1 => .hostWrite 0x0000 0x10 :: .hostWrite 0x0000 0x11 :: abortedExchanges k

/-- The exchanges that end in the next `n` steps: the steps from BUSY = 1 to BUSY = 0 (R133). -/
def ends : Nat → State → Nat
  | 0, _ => 0
  | n + 1, s =>
    match step s with
    | .next t => (if busy s = true ∧ busy t = false then 1 else 0) + ends n t
    | .fault _ => 0
    | .refused _ => 0

/-- No event to come resets the block or writes SEQ, CTR_LO or CTR_HI. -/
def leavesCounters (agenda : List Event) : Prop :=
  ∀ e ∈ agenda, e ≠ .reset ∧ ∀ o v, e = .hostWrite o v → o ∉ [(0x0007 : Offset), 0x0008, 0x0009]

/-- A delivery of a frame, whose first byte is the sync's 0xAA. -/
def delivery (frame : List Byte) : Event := .deliver 0xAA frame.tail

/-- Frames the block may still send in the exchange in flight (R51). -/
def framesLeft : EngineState → Nat
  | .idle => 0
  | .draining => 3
  | .awaitingAck => 2
  | .retrySend => 1
  | .awaitingResponse => 1
  | .sendingResponseAck => 1
  | .drainingTrailing => 0
  | .done => 0
  | .failed => 0

/-- The offsets R35 maps. -/
def mapped (o : Offset) : Prop := o.toNat ≤ 0x0E ∨ (0x0100 ≤ o.toNat ∧ o.toNat < 0x0100 + 247)

/-- The offsets R35 lets a host write, CMD among them. -/
def writable (o : Offset) : Prop :=
  o ∈ [(0x0000 : Offset), 0x0003, 0x0004, 0x0005, 0x0006, 0x0007, 0x0008, 0x0009, 0x000C]

/-- The codes of STATE as R16's table has them. -/
def code16 : EngineState → BitVec 4
  | .idle => 0x0
  | .draining => 0x1
  | .awaitingAck => 0x2
  | .retrySend => 0x3
  | .awaitingResponse => 0x4
  | .sendingResponseAck => 0x5
  | .drainingTrailing => 0x6
  | .done => 0x7
  | .failed => 0x8

/-- The codes of RESULT as R136's table has them. -/
def code136 : ResultCode → Byte
  | .none => 0x00
  | .ok => 0x01
  | .commFailure => 0x02
  | .frameCorrupt => 0x03
  | .sequenceMismatch => 0x04
  | .payloadMismatch => 0x05
  | .unknownFrameKind => 0x06
  | .aborted => 0x07

/-- The offsets of R157's result registers: RESULT, SEQ, CTR_LO, CTR_HI, RESP_SEQ, RESP_LEN and RESP_BUF. -/
def resultOffset (o : Offset) : Prop :=
  o ∈ [(0x0002 : Offset), 0x0007, 0x0008, 0x0009, 0x000A, 0x000B] ∨ (0x0100 ≤ o.toNat ∧ o.toNat < 0x0100 + 247)

/-- The host's writes of a counter restore (R130), some of them or all, followed by a START. -/
def restoreThenStart (writes : List (Offset × Byte)) : List Event :=
  writes.map (fun w => .hostWrite w.1 w.2) ++ [.hostWrite 0x0000 0x10]

/-- The host's registers that no exchange in flight reads: the descriptor (R22) and the Checksum Unit's (R29). -/
def withHostRegs (s : State) (tc iid rc fl : Byte) (acc : Half) (d : Byte) : State :=
  { s with reqTc := tc, reqIid := iid, reqRc := rc, reqFlags := fl, crcAcc := acc, crcData := d }

end Sys2Proof.Claims

open Sys2Proof Sys2Proof.Machine Sys2Proof.Safety Sys2Proof.Claims

/-! ### Commands -/

/-- NOP changes no state (R85). CRC_INIT loads CRC_ACC with 0xFFFF in any STATE and changes nothing else (R83). -/
def Obligations.NopAndCrcInitEffects : Prop :=
  ∀ s : State, exec .nop s = .next s ∧ exec .crcInit s = .next { s with crcAcc := 0xFFFF }

/-- CRC_UPDATE folds CRC_DATA into CRC_ACC by R81's algorithm, in any STATE, and changes nothing else (R84). -/
def Obligations.CrcUpdateFoldsDataByte : Prop :=
  ∀ s : State, exec .crcUpdate s = .next { s with crcAcc := step81 s.crcAcc s.crcData }

/-- START (R109): accepted while BUSY = 0, with every write of the rule and no other; while BUSY = 1 only REJ is set. -/
def Obligations.StartBeginsOrSetsRej : Prop :=
  ∀ s : State,
    (busy s = false → exec .start s = .next
      { s with
        xTc := s.reqTc, xIid := s.reqIid, xRc := s.reqRc, xExp := s.reqFlags.getLsbD 0,
        retried := false, rej := false, result := .none, respSeq := 0x00, respLen := 0x00,
        rspPhase := .hdr, frameBuf := [], state := .draining }) ∧
    (busy s = true → exec .start s = .next { s with rej := true })

/-- ABORT (R124): while BUSY = 1 the exchange ends with ABORTED and the counters advance, RX untouched; while BUSY = 0 nothing changes. -/
def Obligations.AbortEndsExchangeInFlight : Prop :=
  ∀ s : State,
    (busy s = true → exec .abort s = .next
      { s with
        result := .aborted, respLen := 0x00, frameBuf := [], rspPhase := .hdr,
        seq := s.seq + 1, ctr := s.ctr + 1, state := .failed }) ∧
    (busy s = false → exec .abort s = .next s)

/-- The command word (R73) and the reserved opcodes (R74), which change no state. -/
def Obligations.CommandWordsAndReservedOpcodes : Prop :=
  (decodeCommand 0x00 = .ok .nop ∧ decodeCommand 0x01 = .ok .crcInit ∧ decodeCommand 0x02 = .ok .crcUpdate ∧
    decodeCommand 0x10 = .ok .start ∧ decodeCommand 0x11 = .ok .abort) ∧
  ∀ (v : Byte) (s : State) (rest : List Event), v ∉ [(0x00 : Byte), 0x01, 0x02, 0x10, 0x11] →
    decodeCommand v = .error .reservedOpcode ∧
    step { s with agenda := .hostWrite 0x0000 v :: rest } = .next { s with agenda := rest }

/-- A host write of an opcode to CMD runs that command as one step (R44). -/
def Obligations.StepRunsCommand : Prop :=
  ∀ (s : State) (v : Byte) (i : Instr) (rest : List Event), decodeCommand v = .ok i →
    step { s with agenda := .hostWrite 0x0000 v :: rest } = exec i { s with agenda := rest }

/-! ### Checksum Unit -/

/-- `crc16` is R80's fold of R81's step; it is 0xFFFF on no bytes and gives R79's check value. -/
def Obligations.ChecksumIsTheAlgorithm : Prop :=
  (∀ b : List Byte, crc16 b = crc80 b) ∧ crc16 [] = 0xFFFF ∧
  crc16 [0x31, 0x32, 0x33, 0x34, 0x35, 0x36, 0x37, 0x38, 0x39] = 0x29B1

/-- The CRC round trip (R86): a span validates against its own CRC, and flipping any single bit of the span or of the CRC makes validation
fail. -/
def Obligations.ChecksumDetectsSingleBitErrors : Prop :=
  (∀ b : List Byte, crcOk config.crc b (lo (crc16 b)) (hi (crc16 b)) = true) ∧
  (∀ (b : List Byte) (i k : Nat), i < b.length → k < 8 →
    crcOk config.crc (b.set i (at_ b i ^^^ ((0x01 : Byte) <<< k))) (lo (crc16 b)) (hi (crc16 b)) = false) ∧
  (∀ (b : List Byte) (k : Nat), k < 16 →
    crcOk config.crc b (lo (crc16 b ^^^ ((0x0001 : Half) <<< k))) (hi (crc16 b ^^^ ((0x0001 : Half) <<< k))) = false)

/-- A host that writes CRC_INIT and then each byte with CRC_UPDATE leaves `crc16` of the bytes in CRC_ACC (R84), and nothing else changes but
CRC_DATA. -/
def Obligations.HostFoldsBytesIntoChecksum : Prop :=
  ∀ (s : State) (b : List Byte) (rest : List Event),
    Sys2Proof.core.run (1 + 2 * b.length) { s with agenda := crcScript b ++ rest }
      = Host.Outcome.next { s with crcAcc := crc16 b, crcData := b.getLast?.getD s.crcData, agenda := rest }

/-! ### Frame Codec -/

/-- The encoders' bytes (R88, R89). -/
def Obligations.EncodersGiveTheWireBytes : Prop :=
  (∀ (seq : Byte) (ctr : Half) (tc iid rc : Byte), encodeRequest config seq ctr tc iid rc = request88 seq ctr tc iid rc) ∧
  (∀ seq : Byte, encodeAck config seq = ack64 0x40 seq)

/-- Field recovery (R97): the request's fields stand at their offsets and both CRC fields validate; an encoded ACK decodes against its own
sequence. -/
def Obligations.EncodedFieldsAreRecovered : Prop :=
  (∀ (seq : Byte) (ctr : Half) (tc iid rc : Byte),
    let f := encodeRequest config seq ctr tc iid rc
    at_ f 9 = tc ∧ at_ f 12 = iid ∧ at_ f 15 = rc ∧ at_ f 5 = seq ∧ rd16 f 13 = ctr ∧
    crcOk config.crc (span f 2 4) (at_ f 6) (at_ f 7) = true ∧ crcOk config.crc (span f 8 8) (at_ f 16) (at_ f 17) = true) ∧
  (∀ seq : Byte, decodeAck config (encodeAck config seq) seq = .ok false)

/-- What `decode_ack` accepts, byte for byte, and each error it gives (R91): an ACK with the expected sequence, an ACK with another sequence, a
retry-ACK with any sequence, and FrameCorrupt for everything else. -/
def Obligations.DecodeAckAnswersExactly : Prop :=
  ∀ (b : List Byte) (expected : Byte),
    (decodeAck config b expected = .ok false ↔ b = ack64 0x40 expected) ∧
    (decodeAck config b expected = .ok true ↔ ∃ q, b = ack64 0x04 q) ∧
    (decodeAck config b expected = .error .sequenceMismatch ↔ ∃ q, q ≠ expected ∧ b = ack64 0x40 q) ∧
    (decodeAck config b expected = .error .frameCorrupt ↔ ∀ q, b ≠ ack64 0x40 q ∧ b ≠ ack64 0x04 q)

/-- The header check of a Message frame (R90): of a sequence of eight bytes or more it accepts exactly those that begin with the eight bytes of a
header, with any length and any sequence byte. -/
def Obligations.MessageHeaderCheckExactly : Prop :=
  ∀ h : List Byte, 8 ≤ h.length → (msgHeaderOk config h = true ↔ ∃ len seq, h.take 8 = header66 len seq)

/-- What `decode_message` answers, byte for byte (R93, R94, R95, R96): the fields of the Message frame whose payload is the echo of the request and
those fields; PayloadMismatch for a good header and length with a payload too short for the echo or with another echo, whatever the payload
CRC; PayloadMismatch so for every request frame; and FrameCorrupt for everything else. -/
def Obligations.DecodeMessageAnswersExactly : Prop :=
  (∀ (b : List Byte) (ctr : Half) (tc iid rc : Byte),
    (∀ q fields, decodeMessage config b ctr tc iid rc = .ok { echoSeq := q, fields := fields } ↔
      fields.length ≤ 247 ∧ b = message66 q (payload68 ctr tc iid rc fields)) ∧
    (decodeMessage config b ctr tc iid rc = .error .payloadMismatch ↔ wrongEcho b (payload68 ctr tc iid rc [])) ∧
    (decodeMessage config b ctr tc iid rc = .error .frameCorrupt ↔
      ¬ wrongEcho b (payload68 ctr tc iid rc []) ∧
      ∀ q fields, fields.length ≤ 247 → b ≠ message66 q (payload68 ctr tc iid rc fields))) ∧
  (∀ (seq : Byte) (ctr ctr' : Half) (tc iid rc tc' iid' rc' : Byte),
    decodeMessage config (encodeRequest config seq ctr tc iid rc) ctr' tc' iid' rc' = .error .payloadMismatch)

/-- `classify` is R103's, written out apart from the model, with DRAIN_RETRY_AS_ACK at either value. -/
def Obligations.ClassifyIsTheRule : Prop :=
  ∀ (retryAsAck : Bool) (b : List Byte), classify { config with drainRetryAsAck := retryAsAck } b = classify103 retryAsAck b

/-! ### Decoding and encoding -/

/-- Decode gives back every well-formed instruction from its words, whatever bytes follow. -/
def Obligations.DecodeOfEncodeIsTheInstruction : Prop :=
  ∀ (i : Instr) (rest : List Byte), i.wf = true → decode i.channel (encode i ++ rest) = .ok (i, rest)

/-- Encode gives back the words decoded, and what is decoded is of the channel read; a received or command instruction is well-formed. -/
def Obligations.EncodeOfDecodeIsTheWords : Prop :=
  ∀ (ch : Channel) (b rest : List Byte) (i : Instr), decode ch b = .ok (i, rest) →
    encode i ++ rest = b ∧ i.channel = ch ∧ (ch ≠ .send → i.wf = true)

/-- The frame rows are selected by match and mask over the leading bytes (R77), where the whole frame is there. -/
def Obligations.ReceivedRowsAreSelectedByMask : Prop :=
  ∀ b : List Byte, 265 ≤ b.length →
    ((∃ f rest, decode .receive b = .ok (.ack f, rest)) ↔ leading b &&& 0xFFFFFFFFFF = 0xAA55400000) ∧
    ((∃ f rest, decode .receive b = .ok (.retryAck f, rest)) ↔ leading b &&& 0xFFFFFFFFFF = 0xAA55040000) ∧
    ((∃ f rest, decode .receive b = .ok (.messageResponse f, rest)) ↔ leading b &&& 0xFFFFFF00FF = 0xAA55800000) ∧
    ((∃ body rest, decode .receive b = .ok (.control body, rest)) ↔ leading b &&& 0xFFFFFFFFFF = 0xAA554E0053)

/-- Words written out from the spec decode to their instructions. -/
def Obligations.WrittenOutWordsDecode : Prop :=
  decode .command [0x10] = .ok (.start, []) ∧
  decode .command [0x02] = .ok (.crcUpdate, []) ∧
  decode .receive [0xAA, 0x55, 0x40, 0x00, 0x00, 0x05, 0xF9, 0xBA, 0xFF, 0xFF]
    = .ok (.ack { seq := 0x05, hcrc := 0xBAF9, trailer0 := 0xFF, trailer1 := 0xFF }, []) ∧
  decode .send [0xAA, 0x55, 0x80, 0x08, 0x00, 0x05, 0xFC, 0xA0, 0x80, 0x02, 0x01, 0x00, 0x01, 0x07, 0x00, 0x03, 0xBB, 0x2A]
    = .ok (.messageRequest { seq := 0x05, hcrc := 0xA0FC, targetClass := 0x02, instanceId := 0x01, counter := 0x0007,
                             requestCode := 0x03, pcrc := 0x2ABB }, [])

/-! ### The end of an exchange and the counters -/

/-- `finish(r)` writes what R137 lists and nothing else. -/
def Obligations.FinishWritesExactly : Prop :=
  ∀ (s : State) (r : ResultCode), finish s r =
    { s with
      result := r, respLen := if r = .ok then s.respLen else 0x00, frameBuf := [], rspPhase := .hdr,
      seq := s.seq + 1, ctr := s.ctr + 1, state := if r = .ok then .done else .failed }

/-- `advance` (R131): SEQ mod 256 and CTR mod 65536, both together, no carry between them, nothing else. -/
def Obligations.AdvanceWrapsBothCounters : Prop :=
  ∀ s : State,
    (advance s).seq.toNat = (s.seq.toNat + 1) % 256 ∧ (advance s).ctr.toNat = (s.ctr.toNat + 1) % 65536 ∧
    { advance s with seq := s.seq, ctr := s.ctr } = s

/-- After k exchanges that end, SEQ and CTR are k further (R133): in every run with no reset and no write of SEQ or CTR to come, k counting the steps
that end an exchange; and such runs are there for every k, here by START and ABORT. -/
def Obligations.CountersAfterManyExchanges : Prop :=
  (∀ (n : Nat) (s t : State), leavesCounters s.agenda → Sys2Proof.core.run n s = Host.Outcome.next t →
    t.seq.toNat = (s.seq.toNat + ends n s) % 256 ∧ t.ctr.toNat = (s.ctr.toNat + ends n s) % 65536) ∧
  (∀ (s : State) (k : Nat) (rest : List Event), busy s = false →
    ∃ t, Sys2Proof.core.run (2 * k) { s with agenda := abortedExchanges k ++ rest } = Host.Outcome.next t ∧
      t.seq.toNat = (s.seq.toNat + k) % 256 ∧ t.ctr.toNat = (s.ctr.toNat + k) % 65536 ∧ busy t = false ∧ t.agenda = rest)

/-! ### Acknowledgement -/

/-- A good ACK where one is awaited (R91, R112, R113, R115). With the expected sequence the response is awaited if one is expected, else the
trailing drain follows, and nothing else changes; with another sequence the exchange ends with SEQUENCE_MISMATCH. -/
def Obligations.GoodAckLeadsOnOrMismatches : Prop :=
  ∀ (s : State) (f : AckFrame), awaitsAck s → ackValid 0x40 f →
    (f.seq = s.seq → exec (.ack f) s = .next
      (if s.xExp = true then { s with rspPhase := .hdr, frameBuf := [], state := .awaitingResponse }
       else { s with state := .drainingTrailing })) ∧
    (f.seq ≠ s.seq → exec (.ack f) s = .next (finish s .sequenceMismatch))

/-- Where an ACK is awaited, a bad CRC or trailer, a Message frame and a Control frame end the exchange with FRAME_CORRUPT; ten bytes are
taken and the rest of the frame stays in RX (R91, R112). -/
def Obligations.AckReadRefusesOtherFrames : Prop :=
  ∀ s : State, awaitsAck s →
    (∀ f : AckFrame, ¬ ackValid 0x40 f → exec (.ack f) s = .next (finish s .frameCorrupt)) ∧
    (∀ f : AckFrame, ¬ ackValid 0x04 f → exec (.retryAck f) s = .next (finish s .frameCorrupt)) ∧
    (∀ f : MessageFrame, Instr.wf (.messageResponse f) = true → exec (.messageResponse f) s
      = .next (finish { s with rx := (encode (.messageResponse f)).drop 10 ++ s.rx } .frameCorrupt)) ∧
    (∀ body : List Byte, Instr.wf (.control body) = true → exec (.control body) s
      = .next (finish { s with rx := (encode (.control body)).drop 10 ++ s.rx } .frameCorrupt))

/-- A retry-ACK where an ACK is awaited, whatever its sequence byte. The first (R114): RETRIED is set and the identical request goes out again.
The second (R116): the exchange ends with COMM_FAILURE and no third request is sent. -/
def Obligations.RetryAckResendsOnce : Prop :=
  ∀ (s : State) (f : AckFrame), ackValid 0x04 f →
    (s.state = .awaitingAck → exec (.retryAck f) s = .next
      { s with retried := true, tx := s.tx ++ request88 s.seq s.ctr s.xTc s.xIid s.xRc, state := .retrySend }) ∧
    (s.state = .retrySend → exec (.retryAck f) s = .next (finish s .commFailure))

/-- The ack retry bound (R127), from START on, in one schedule from an empty RX: two identical requests, no response-ack, COMM_FAILURE, and one advance of the counters. -/
def Obligations.AckRetryBound : Prop :=
  ∀ (s : State) (q₁ q₂ : Byte) (rest : List Event), busy s = false → s.rx = [] →
    Sys2Proof.core.run 6
        { s with agenda := .hostWrite 0x0000 0x10 :: .engine :: delivery (ack64 0x04 q₁) :: .engine
                    :: delivery (ack64 0x04 q₂) :: .engine :: rest }
      = Host.Outcome.next
        { s with
          xTc := s.reqTc, xIid := s.reqIid, xRc := s.reqRc, xExp := s.reqFlags.getLsbD 0,
          retried := true, rej := false, result := .commFailure, respSeq := 0x00, respLen := 0x00,
          rspPhase := .hdr, frameBuf := [], state := .failed, seq := s.seq + 1, ctr := s.ctr + 1,
          tx := s.tx ++ request88 s.seq s.ctr s.reqTc s.reqIid s.reqRc ++ request88 s.seq s.ctr s.reqTc s.reqIid s.reqRc,
          agenda := rest }

/-! ### Response -/

/-- The header phase (R102, R117): the eight header bytes of a good header are taken into FRAME_BUF and the payload stays in RX. -/
def Obligations.ResponseHeaderIsTaken : Prop :=
  ∀ (s : State) (f : MessageFrame), s.state = .awaitingResponse → s.rspPhase = .hdr →
    exec (.messageResponse f) s =
      if f.hcrc = crc16 [0x80, f.len, 0x00, f.seq] then
        .next { s with frameBuf := [0xAA, 0x55, 0x80, f.len, 0x00, f.seq] ++ le9 f.hcrc, rspPhase := .body,
                       rx := f.payload ++ le9 f.pcrc ++ s.rx }
      else .next (finish { s with rx := f.payload ++ le9 f.pcrc ++ s.rx } .frameCorrupt)

/-- The body phase on a response that echoes the request (R118): RESP_SEQ, RESP_LEN and RESP_BUF are written, the bytes above them keep their
values, and the response-ack is next. Nothing else changes; that RSP_PHASE stays BODY is the MODEL'S reading (log 12), no word of R118. -/
def Obligations.ResponseIsAccepted : Prop :=
  ∀ (s : State) (f : MessageFrame) (fields : List Byte), awaitsBody s → Instr.wf (.messageResponse f) = true →
    f.hcrc = crc16 [0x80, f.len, 0x00, f.seq] → f.payload = echo s ++ fields → f.pcrc = crc16 f.payload →
    exec (.messageResponse f) s = .next
      { s with
        respSeq := f.seq, respLen := BitVec.ofNat 8 fields.length, respBuf := fields ++ s.respBuf.drop fields.length,
        frameBuf := [], state := .sendingResponseAck }

/-- The body phase on any other response with a good header (R93, R94, R95, R118): a short payload or a wrong echo is PAYLOAD_MISMATCH whatever the
payload CRC; a good echo with a wrong payload CRC is FRAME_CORRUPT. -/
def Obligations.ResponseIsRefused : Prop :=
  ∀ (s : State) (f : MessageFrame), awaitsBody s → Instr.wf (.messageResponse f) = true →
    f.hcrc = crc16 [0x80, f.len, 0x00, f.seq] →
    (f.payload.take 8 ≠ echo s → exec (.messageResponse f) s = .next (finish s .payloadMismatch)) ∧
    (f.payload.take 8 = echo s → f.pcrc ≠ crc16 f.payload → exec (.messageResponse f) s = .next (finish s .frameCorrupt))

/-- Where a response header is awaited, an ACK, a retry-ACK or a Control frame ends the exchange with FRAME_CORRUPT; eight bytes are taken
and the rest of the frame stays in RX (R117, R90). -/
def Obligations.HeaderReadRefusesOtherFrames : Prop :=
  ∀ (s : State) (i : Instr), s.state = .awaitingResponse → s.rspPhase = .hdr → i.wf = true →
    ((∃ f, i = .ack f) ∨ (∃ f, i = .retryAck f) ∨ (∃ body, i = .control body)) →
    exec i s = .next (finish { s with rx := (encode i).drop 8 ++ s.rx } .frameCorrupt)

/-! ### Drains -/

/-- A drain drops a whole ACK, Message or Control frame, unexamined, and changes nothing else (R103, R104). -/
def Obligations.DrainDropsWholeFrames : Prop :=
  ∀ s : State, drains s →
    (∀ f : AckFrame, exec (.ack f) s = .next s) ∧
    (∀ f : MessageFrame, Instr.wf (.messageResponse f) = true → exec (.messageResponse f) s = .next s) ∧
    (∀ body : List Byte, Instr.wf (.control body) = true → exec (.control body) s = .next s)

/-- A retry-ACK met in a drain is an unknown frame kind, with DRAIN_RETRY_AS_ACK false (R103): the exchange ends with UNKNOWN_FRAME_KIND, and
the frame stays in RX. With the parameter true it is classified as a ten-byte frame. -/
def Obligations.DrainRefusesRetryAck : Prop :=
  (∀ (s : State) (f : AckFrame), drains s →
    exec (.retryAck f) s = .next (finish { s with rx := encode (.retryAck f) ++ s.rx } .unknownFrameKind)) ∧
  (∀ (f : AckFrame) (rest : List Byte),
    classify { config with drainRetryAsAck := true } (encode (.retryAck f) ++ rest) = .len 10)

/-- The stale drain ends with the request sent (R111): the second clause, with an empty agenda, which is the engine's turn (log 1). The first clause is
the MODEL'S CHOICE (log 4): the row's own operands are sent, whatever SEQ, CTR and the latches hold. -/
def Obligations.DrainedEngineSendsRequest : Prop :=
  ∀ (s : State) (f : RequestFrame), s.state = .draining → s.rx = [] →
    exec (.messageRequest f) s = .next
      { s with tx := s.tx ++ request88 f.seq f.counter f.targetClass f.instanceId f.requestCode, state := .awaitingAck } ∧
    step { s with agenda := [] } = .next
      { s with tx := s.tx ++ request88 s.seq s.ctr s.xTc s.xIid s.xRc, state := .awaitingAck, agenda := [] }

/-- SENDING_RESPONSE_ACK sends the ACK of RESP_SEQ and goes on to the trailing drain (R119): the second clause, with an empty agenda, which is the
engine's turn (log 1). The first clause is the MODEL'S CHOICE (log 4): the ACK of the row's own operand is sent, whatever RESP_SEQ holds. -/
def Obligations.ResponseAckIsSent : Prop :=
  ∀ (s : State) (f : SentAck), s.state = .sendingResponseAck →
    exec (.responseAck f) s = .next { s with tx := s.tx ++ ack64 0x40 f.seq, state := .drainingTrailing } ∧
    step { s with agenda := [] } = .next
      { s with tx := s.tx ++ ack64 0x40 s.respSeq, state := .drainingTrailing, agenda := [] }

/-- The trailing drain with RX empty ends the exchange with OK (R105, R121). That the step at an empty agenda is the engine's turn is the MODEL'S
CHOICE (log 1). -/
def Obligations.TrailingDrainCompletes : Prop :=
  ∀ s : State, s.state = .drainingTrailing → s.rx = [] → s.agenda = [] →
    step s = .next { s with result := .ok, frameBuf := [], rspPhase := .hdr, seq := s.seq + 1, ctr := s.ctr + 1, state := .done }

/-- Any number of whole frames in RX: the stale drain drops them one a step, in order, and then sends the request (R106, R107). With
an empty agenda every step is the engine's turn (log 1). -/
def Obligations.StaleDrainThenRequest : Prop :=
  ∀ (s : State) (frames : List (List Byte)), s.state = .draining → s.agenda = [] → s.rx = frames.flatten →
    (∀ f ∈ frames, classify config f = .len f.length) →
    Sys2Proof.core.run (frames.length + 1) s = Host.Outcome.next
      { s with rx := [], tx := s.tx ++ request88 s.seq s.ctr s.xTc s.xIid s.xRc, state := .awaitingAck }

/-! ### The engine as a whole -/

/-- MODEL'S CHOICE (log 3, log 4): a received frame in a state that does not read RX waits at its head, and a sent row in a state that does not send
it does nothing. R125 says that the engine consumes no byte in IDLE, DONE and FAILED. -/
def Obligations.FramesOutsideTheirStates : Prop :=
  (∀ (s : State) (i : Instr), i.channel = .receive → busy s = false ∨ s.state = .sendingResponseAck →
    exec i s = .next { s with rx := encode i ++ s.rx }) ∧
  (∀ (s : State) (f : RequestFrame), ¬ (s.state = .draining ∧ s.rx = []) → exec (.messageRequest f) s = .next s) ∧
  (∀ (s : State) (f : SentAck), s.state ≠ .sendingResponseAck → exec (.responseAck f) s = .next s)

/-- When the engine holds (R99, R102, R104): exactly where its read or its drain lacks bytes. -/
def Obligations.EngineHoldsExactlyForBytes : Prop :=
  ∀ s : State, engineTurn s = .hold ↔
    (awaitsAck s ∧ s.rx.length < 10) ∨
    (s.state = .awaitingResponse ∧ s.rspPhase = .hdr ∧ s.rx.length < 8) ∨
    (awaitsBody s ∧ 4 ≤ s.frameBuf.length ∧ s.rx.length < (at_ s.frameBuf 3).toNat + 2) ∨
    (drains s ∧ s.rx ≠ [] ∧
      ((∃ k, classify config s.rx = .need k) ∨ ∃ t, classify config s.rx = .len t ∧ s.rx.length < t))

/-- In IDLE, DONE and FAILED the engine has no step (R125): no event but START and a reset leads out of them, no event but a reset takes a byte
from RX, and the bytes of a delivery accumulate there. -/
def Obligations.QuiescentEngineTakesNothing : Prop :=
  ∀ s : State,
    (busy s = false ↔ engineTurn s = .quiescent) ∧
    (∀ b bs rest, busy s = false → s.agenda = .deliver b bs :: rest → step s = .next { s with rx := s.rx ++ b :: bs, agenda := rest }) ∧
    (∀ t, busy s = false → step s = .next t → (nextEvent s).1 ≠ .reset →
      (∃ d, t.rx = s.rx ++ d) ∧ ((nextEvent s).1 ≠ .hostWrite 0x0000 0x10 → t.state = s.state))

/-- A step runs the decoded frame: where the engine reads RX, has its turn, and a well-formed received frame stands at the head, the step is that
instruction's, with the frame taken off RX; in the body phase the frame's header is in FRAME_BUF. -/
def Obligations.StepRunsReceivedFrame : Prop :=
  (∀ (s : State) (i : Instr) (rest : List Byte), (nextEvent s).1 = .engine → readsHead (nextEvent s).2 = true →
    i.channel = .receive → i.wf = true → s.rx = encode i ++ rest →
    step s = exec i { (nextEvent s).2 with rx := rest }) ∧
  (∀ (s : State) (f : MessageFrame) (rest : List Byte), (nextEvent s).1 = .engine → awaitsBody (nextEvent s).2 →
    Instr.wf (.messageResponse f) = true → s.frameBuf ++ s.rx = encode (.messageResponse f) ++ rest → s.frameBuf.length = 8 →
    step s = exec (.messageResponse f) { (nextEvent s).2 with rx := rest })

/-- The machine that decodes frames and runs their rows is the engine on raw bytes: at an engine turn the step is the engine's turn (R108,
R128), in every state. -/
def Obligations.StepIsTheEngineTurn : Prop :=
  ∀ s : State, (nextEvent s).1 = .engine → step s = (engineTurn (nextEvent s).2).outcome (nextEvent s).2

/-- The transition table (R128): the engine's own steps lead from each state only to the states of its rows. -/
def Obligations.EngineFollowsTransitionTable : Prop :=
  ∀ s t : State, engineTurn s = .stepped t →
    (s.state = .draining ∧ s.rx ≠ [] ∧ (t.state = .draining ∨ t.state = .failed ∧ t.result = .unknownFrameKind)) ∨
    (s.state = .draining ∧ s.rx = [] ∧ t.state = .awaitingAck) ∨
    (s.state = .awaitingAck ∧ 10 ≤ s.rx.length ∧
      (t.state = (if s.xExp = true then .awaitingResponse else .drainingTrailing) ∨ t.state = .retrySend ∧ t.retried = true ∨
       t.state = .failed ∧ (t.result = .frameCorrupt ∨ t.result = .sequenceMismatch))) ∨
    (s.state = .retrySend ∧ 10 ≤ s.rx.length ∧
      (t.state = (if s.xExp = true then .awaitingResponse else .drainingTrailing) ∨
       t.state = .failed ∧ (t.result = .commFailure ∨ t.result = .frameCorrupt ∨ t.result = .sequenceMismatch))) ∨
    (s.state = .awaitingResponse ∧ s.rspPhase = .hdr ∧ 8 ≤ s.rx.length ∧
      (t.state = .awaitingResponse ∧ t.rspPhase = .body ∨ t.state = .failed ∧ t.result = .frameCorrupt)) ∨
    (awaitsBody s ∧ (t.state = .sendingResponseAck ∨ t.state = .failed ∧ (t.result = .frameCorrupt ∨ t.result = .payloadMismatch))) ∨
    (s.state = .sendingResponseAck ∧ t.state = .drainingTrailing) ∨
    (s.state = .drainingTrailing ∧ s.rx ≠ [] ∧ (t.state = .drainingTrailing ∨ t.state = .failed ∧ t.result = .unknownFrameKind)) ∨
    (s.state = .drainingTrailing ∧ s.rx = [] ∧ t.state = .done ∧ t.result = .ok)

/-! ### Invariants -/

/-- The reset state meets the invariant. -/
def Obligations.ResetMeetsInvariant : Prop := Inv State.reset

/-- Every step keeps the invariant, whatever events are to come. -/
def Obligations.StepKeepsInvariant : Prop := ∀ s t : State, Inv s → step s = .next t → Inv t

/-- From a state that meets the invariant every step answers a next state: no register access, command, frame or delivery stops the block
(R37, R43, R87). -/
def Obligations.StepNeverStops : Prop := ∀ s : State, Inv s → ∃ t, step s = .next t

/-- SEQ and CTR change only at the end of an exchange, both by one, or by a host write or a reset while none is in flight (R129, R131,
R132). -/
def Obligations.CountersChangeOnlyAtTheEnd : Prop :=
  ∀ s t : State, step s = .next t → (nextEvent s).1 ≠ .reset →
    (busy s = true → busy t = false → t.seq = s.seq + 1 ∧ t.ctr = s.ctr + 1) ∧
    (busy s = true → busy t = true → t.seq = s.seq ∧ t.ctr = s.ctr) ∧
    (busy s = false → (∀ o v, (nextEvent s).1 = .hostWrite o v → o ∉ [(0x0007 : Offset), 0x0008, 0x0009]) →
      t.seq = s.seq ∧ t.ctr = s.ctr)

/-- TX grows only by one whole frame of the Frame Codec at a time (R50), and each frame uses up one of the at most three of an exchange (R51):
START gives three, and no other step gives any. -/
def Obligations.TransmitsWholeFramesAtMostThree : Prop :=
  ∀ s t : State, step s = .next t → (nextEvent s).1 ≠ .reset →
    (t.tx = s.tx ∧ (framesLeft t.state ≤ framesLeft s.state ∨
      (busy s = false ∧ t.state = .draining ∧ (nextEvent s).1 = .hostWrite 0x0000 0x10))) ∨
    (∃ f, SentFrame f ∧ t.tx = s.tx ++ f ∧ framesLeft t.state + 1 ≤ framesLeft s.state)

/-- RX is first-in first-out (R47, R49): a delivery appends its bytes, in any STATE, and changes nothing else; an engine step removes some from
the head; no other event but a reset touches it. -/
def Obligations.ReceiveStreamIsFifo : Prop :=
  ∀ s t : State, step s = .next t →
    (∀ b bs rest, s.agenda = .deliver b bs :: rest → t = { s with rx := s.rx ++ b :: bs, agenda := rest }) ∧
    ((nextEvent s).1 = .engine → ∃ n, t.rx = s.rx.drop n) ∧
    (∀ o v, (nextEvent s).1 = .hostWrite o v → t.rx = s.rx) ∧
    (∀ o, (nextEvent s).1 = .hostRead o → t.rx = s.rx)

/-- The engine neither reads nor writes CRC_ACC, CRC_DATA and the REQ_ registers (R22, R29, R154): its turn is the same whatever they hold, and
leaves them as they are. -/
def Obligations.EngineIgnoresHostRegisters : Prop :=
  ∀ (s : State) (tc iid rc fl : Byte) (acc : Half) (d : Byte),
    engineTurn (withHostRegs s tc iid rc fl acc d) =
      match engineTurn s with
      | .stepped t => .stepped (withHostRegs t tc iid rc fl acc d)
      | .hold => .hold
      | .quiescent => .quiescent
      | .stuck r => .stuck r

/-! ### Host register accesses, deliveries and reset -/

/-- A host write of each register (R43): its whole effect, SEQ and CTR only while BUSY = 0; a write of an opcode to CMD runs its command; a write
of a read-only or unmapped offset changes nothing; and no write faults. -/
def Obligations.HostWritesRegisters : Prop :=
  ∀ (s : State) (v : Byte) (rest : List Event),
    let wr (o : Offset) := step { s with agenda := .hostWrite o v :: rest }
    wr 0x0003 = .next { s with reqTc := v, agenda := rest } ∧
    wr 0x0004 = .next { s with reqIid := v, agenda := rest } ∧
    wr 0x0005 = .next { s with reqRc := v, agenda := rest } ∧
    wr 0x0006 = .next { s with reqFlags := (v.extractLsb' 0 1).setWidth 8, agenda := rest } ∧
    wr 0x000C = .next { s with crcData := v, agenda := rest } ∧
    (busy s = false → wr 0x0007 = .next { s with seq := v, agenda := rest } ∧
      wr 0x0008 = .next { s with ctr := s.ctr.extractLsb' 8 8 ++ v, agenda := rest } ∧
      wr 0x0009 = .next { s with ctr := v ++ s.ctr.extractLsb' 0 8, agenda := rest }) ∧
    (busy s = true → ∀ o ∈ [(0x0007 : Offset), 0x0008, 0x0009], wr o = .next { s with agenda := rest }) ∧
    (∀ i, decodeCommand v = .ok i → wr 0x0000 = exec i { s with agenda := rest }) ∧
    (∀ o, ¬ writable o → wr o = .next { s with agenda := rest }) ∧
    (∀ o, ∃ t, wr o = .next t)

/-- A host read of each register (R35, R42): what it returns, with the codes of STATE (R16) and RESULT (R136) written out; a read changes nothing of the block, and a read right after it returns the same. -/
def Obligations.HostReadsRegisters : Prop :=
  ∀ (s : State) (o : Offset) (rest : List Event),
    (∃ t, step { s with agenda := .hostRead o :: rest } = .next t ∧ { t with hostReads := s.hostReads } = { s with agenda := rest } ∧
      ∀ o', readReg t o' = readReg s o') ∧
    readReg s 0x0000 = 0x00 ∧
    readReg s 0x0001 = (0#1 ++ BitVec.ofBool s.rej ++ BitVec.ofBool s.retried ++ BitVec.ofBool (busy s) ++ code16 s.state) ∧
    readReg s 0x0002 = code136 s.result ∧
    readReg s 0x0003 = s.reqTc ∧ readReg s 0x0004 = s.reqIid ∧ readReg s 0x0005 = s.reqRc ∧
    readReg s 0x0006 = (s.reqFlags.extractLsb' 0 1).setWidth 8 ∧ readReg s 0x0007 = s.seq ∧
    readReg s 0x0008 = s.ctr.extractLsb' 0 8 ∧ readReg s 0x0009 = s.ctr.extractLsb' 8 8 ∧
    readReg s 0x000A = s.respSeq ∧ readReg s 0x000B = s.respLen ∧ readReg s 0x000C = s.crcData ∧
    readReg s 0x000D = s.crcAcc.extractLsb' 0 8 ∧ readReg s 0x000E = s.crcAcc.extractLsb' 8 8 ∧
    (∀ i, i < 247 → readReg s (0x0100 + BitVec.ofNat 16 i) = if i < s.respLen.toNat then s.respBuf.getD i 0x00 else 0x00) ∧
    (¬ mapped o → readReg s o = 0x00)

/-- MODEL'S CHOICE (log 13): a host read appends the byte it returns to the model's record of reads. -/
def Obligations.HostReadIsRecorded : Prop :=
  ∀ (s : State) (o : Offset) (rest : List Event),
    step { s with agenda := .hostRead o :: rest } = .next { s with agenda := rest, hostReads := s.hostReads ++ [readReg s o] }

/-- The STATUS view (R18): STATE by R16's codes, BUSY, RETRIED, REJ and a zero bit; a write of it is ignored and a read has no side effect. BUSY is 1 in exactly the
six states of R17, and there a START is turned away. -/
def Obligations.StatusShowsProgress : Prop :=
  ∀ (s : State) (v : Byte) (rest : List Event),
    (readReg s 0x0001).extractLsb' 0 4 = code16 s.state ∧ (readReg s 0x0001).getLsbD 4 = busy s ∧
    (readReg s 0x0001).getLsbD 5 = s.retried ∧ (readReg s 0x0001).getLsbD 6 = s.rej ∧ (readReg s 0x0001).getLsbD 7 = false ∧
    step { s with agenda := .hostWrite 0x0001 v :: rest } = .next { s with agenda := rest } ∧
    (∃ t, step { s with agenda := .hostRead 0x0001 :: rest } = .next t ∧ { t with hostReads := s.hostReads } = { s with agenda := rest }) ∧
    (busy s = true ↔ s.state ∈ [EngineState.draining, .awaitingAck, .retrySend, .awaitingResponse, .sendingResponseAck,
      .drainingTrailing]) ∧
    (busy s = false ↔ s.state ∈ [EngineState.idle, .done, .failed]) ∧
    (busy s = true → exec .start s = .next { s with rej := true })

/-- A reset puts every element of R36 at its value there, from any state, an exchange in flight or not, with no advance of the counters (R151). The
statement says nothing of the model's own two fields. -/
def Obligations.ResetPutsEveryElement : Prop :=
  ∀ (s : State) (rest : List Event),
    ∃ t, step { s with agenda := .reset :: rest } = .next t ∧ { t with agenda := [], hostReads := [] } =
      { state := .idle, retried := false, rej := false, result := .none,
        reqTc := 0x00, reqIid := 0x00, reqRc := 0x00, reqFlags := 0x00, xTc := 0x00, xIid := 0x00, xRc := 0x00, xExp := false,
        seq := 0x00, ctr := 0x0000, respSeq := 0x00, respLen := 0x00, respBuf := List.replicate 247 0x00,
        crcAcc := 0xFFFF, crcData := 0x00, rspPhase := .hdr, frameBuf := [], rx := [], tx := [],
        agenda := [], hostReads := [] }

/-! ### Whole exchanges and interleavings -/

/-- A whole exchange with a response (R109 to R121), for every sequence, counter, descriptor and up to 247 response fields. -/
def Obligations.WholeExchangeReturnsFields : Prop :=
  ∀ (s : State) (q : Byte) (fields : List Byte) (rest : List Event),
    busy s = false → s.rx = [] → s.reqFlags.getLsbD 0 = true → fields.length ≤ 247 →
    Sys2Proof.core.run 9
        { s with agenda := .hostWrite 0x0000 0x10 :: .engine :: delivery (ack64 0x40 s.seq) :: .engine
                    :: delivery (message66 q (payload68 s.ctr s.reqTc s.reqIid s.reqRc fields))
                    :: .engine :: .engine :: .engine :: .engine :: rest }
      = Host.Outcome.next
        { s with
          xTc := s.reqTc, xIid := s.reqIid, xRc := s.reqRc, xExp := true,
          retried := false, rej := false, result := .ok, state := .done, rspPhase := .hdr, frameBuf := [],
          respSeq := q, respLen := BitVec.ofNat 8 fields.length, respBuf := fields ++ s.respBuf.drop fields.length,
          seq := s.seq + 1, ctr := s.ctr + 1,
          tx := s.tx ++ request88 s.seq s.ctr s.reqTc s.reqIid s.reqRc ++ ack64 0x40 q,
          agenda := rest }

/-- A whole exchange that expects no response, without the retry (R122): one request, no response-ack, DONE with RESP_LEN = 0. -/
def Obligations.WholeExchangeWithoutResponse : Prop :=
  ∀ (s : State) (rest : List Event), busy s = false → s.rx = [] → s.reqFlags.getLsbD 0 = false →
    Sys2Proof.core.run 5
        { s with agenda := .hostWrite 0x0000 0x10 :: .engine :: delivery (ack64 0x40 s.seq) :: .engine :: .engine :: rest }
      = Host.Outcome.next
        { s with
          xTc := s.reqTc, xIid := s.reqIid, xRc := s.reqRc, xExp := false,
          retried := false, rej := false, result := .ok, state := .done, rspPhase := .hdr, frameBuf := [],
          respSeq := 0x00, respLen := 0x00, seq := s.seq + 1, ctr := s.ctr + 1,
          tx := s.tx ++ request88 s.seq s.ctr s.reqTc s.reqIid s.reqRc, agenda := rest }

/-- A read that never gets its bytes holds for ever (R101): with no event to come, every step then being the engine's turn (log 1), the run stays
BUSY; ABORT lifts the hold by ending the exchange; and no step but a delivery, an ABORT and a reset (R151) lifts it. -/
def Obligations.HoldLastsUntilAbort : Prop :=
  (∀ s : State, engineTurn s = .hold → s.agenda = [] → Hangs s) ∧
  (∀ (s : State) (rest : List Event), engineTurn s = .hold →
    step { s with agenda := .hostWrite 0x0000 0x11 :: rest } = .next (finish { s with agenda := rest } .aborted)) ∧
  (∀ s t : State, engineTurn s = .hold → step s = .next t → (∀ b bs, (nextEvent s).1 ≠ .deliver b bs) →
    (nextEvent s).1 ≠ .hostWrite 0x0000 0x11 → (nextEvent s).1 ≠ .reset → engineTurn t = .hold ∧ t.state = s.state)

/-- ABORT and an engine step that would end the exchange, in any state (R140): whichever is first wins. First the engine step: the exchange ends
with its own result and the ABORT does nothing. First the ABORT: the result is ABORTED and the engine has no step. -/
def Obligations.AbortAndCompletionRace : Prop :=
  ∀ (s t : State) (rest : List Event), engineTurn s = .stepped t → busy t = false →
    Sys2Proof.core.run 2 { s with agenda := .engine :: .hostWrite 0x0000 0x11 :: rest }
      = Host.Outcome.next { t with agenda := rest } ∧
    Sys2Proof.core.run 2 { s with agenda := .hostWrite 0x0000 0x11 :: .engine :: rest }
      = Host.Outcome.next (finish { s with agenda := rest } .aborted)

/-- A delivery, of any bytes, and the drain's empty poll, in both drains (R105, R111, R121): both orders are admitted. First the poll: the request
is sent, or the exchange ends with OK, and the bytes stay in RX. First the delivery: the turn is a drain step on the bytes (R104). So a whole
ACK delivered before the poll of either drain is dropped. -/
def Obligations.DeliveryAndEmptyPollRace : Prop :=
  ∀ (s : State) (b : Byte) (bs : List Byte) (rest : List Event), s.rx = [] →
    let pollFirst := Sys2Proof.core.run 2 { s with agenda := .engine :: .deliver b bs :: rest }
    let deliveryFirst := Sys2Proof.core.run 2 { s with agenda := .deliver b bs :: .engine :: rest }
    (s.state = .draining → pollFirst = Host.Outcome.next
      { s with tx := s.tx ++ request88 s.seq s.ctr s.xTc s.xIid s.xRc, state := .awaitingAck, rx := b :: bs, agenda := rest }) ∧
    (s.state = .drainingTrailing → pollFirst = Host.Outcome.next { finish s .ok with rx := b :: bs, agenda := rest }) ∧
    (drains s → deliveryFirst = Host.Outcome.next
      (match classify103 false (b :: bs) with
       | .unknown => finish { s with rx := b :: bs, agenda := rest } .unknownFrameKind
       | .need _ => { s with rx := b :: bs, agenda := rest }
       | .len t => { s with rx := if (b :: bs).length < t then b :: bs else (b :: bs).drop t, agenda := rest })) ∧
    (∀ q, drains s → b :: bs = ack64 0x40 q → deliveryFirst = Host.Outcome.next { s with agenda := rest })

/-- MODEL'S CHOICE of when a run breaks a host duty (R130, R160, log 14), though the step itself is defined. (a) A START while BUSY = 1, which sets
REJ. (b) A START while a counter restore is under way: after some and not all of the three writes that take effect, in any order; a write that
is ignored because BUSY = 1 is none of them. (c) A read of a result register while BUSY = 1. Nothing else breaks a duty. -/
def Obligations.BrokenDutyRefusesTheRun : Prop :=
  ∀ (n : Nat) (m : Restore) (s : State),
    (∀ rest, busy s = true →
      dutifulRun (n + 1) m { s with agenda := .hostWrite 0x0000 0x10 :: rest } = .dutyBroken .startWhileBusy ∧
      step { s with agenda := .hostWrite 0x0000 0x10 :: rest } = .next { s with agenda := rest, rej := true }) ∧
    (∀ d, breach m s = some d → dutifulRun (n + 1) m s = .dutyBroken d ∧ ∃ t, step s = .next t) ∧
    (breach m s = some .startWhileBusy ↔ (nextEvent s).1 = .hostWrite 0x0000 0x10 ∧ busy s = true) ∧
    (breach m s = some .startInsideRestore ↔
      (nextEvent s).1 = .hostWrite 0x0000 0x10 ∧ busy s = false ∧ (m.seq = true ∨ m.ctrLo = true ∨ m.ctrHi = true)) ∧
    (breach m s = some .resultWhileBusy ↔ ∃ o, (nextEvent s).1 = .hostRead o ∧ resultOffset o ∧ busy s = true) ∧
    (∀ o v, busy s = true → m.after s (.hostWrite o v) = m) ∧
    (∀ (writes : List (Offset × Byte)) (rest : List Event), busy s = false →
      (∀ w ∈ writes, w.1 ∈ [(0x0007 : Offset), 0x0008, 0x0009]) → (writes.map Prod.fst).Nodup →
      let verdict := dutifulRun (writes.length + 1) Restore.none { s with agenda := restoreThenStart writes ++ rest }
      if writes.length = 1 ∨ writes.length = 2 then verdict = .dutyBroken .startInsideRestore
      else ∃ t, verdict = .ran t ∧ t.state = .draining)
end

