-- ==== Sys2Proof/Laws/Bytes.lean ====
section
/-! SUPPORT. The byte forms: a 16-bit value and its two bytes, and the bytes of a sequence by offset. -/

namespace Sys2Proof.Machine

@[simp] theorem pair_hi_lo (v : Half) : pair (hi v) (lo v) = v := by
  unfold pair hi lo
  ext i hi
  simp only [BitVec.getElem_or, BitVec.getElem_shiftLeft, BitVec.getElem_setWidth, BitVec.getLsbD_setWidth, BitVec.getLsbD_ushiftRight]
  rcases Nat.lt_or_ge i 8 with h | h
  · simp [h, BitVec.getLsbD_eq_getElem hi]
  · have h2 : i - 8 < 8 := by omega
    simp [h2, Nat.not_lt.mpr h, show 8 + (i - 8) = i by omega, BitVec.getLsbD_eq_getElem hi]

@[simp] theorem lo_pair (h l : Byte) : lo (pair h l) = l := by
  unfold pair lo
  ext i hi
  simp

@[simp] theorem hi_pair (h l : Byte) : hi (pair h l) = h := by
  unfold pair hi
  ext i hi
  simp [show 8 + i < 16 by omega, show i < 16 by omega, BitVec.getLsbD_eq_getElem hi]

/-- `incr` modulo the width of the type is the type's own increment. -/
theorem incr_type {w : Nat} (v : BitVec w) : incr w v = v + 1 := by
  apply BitVec.eq_of_toNat_eq
  simp [incr, BitVec.toNat_add]

/-- SEQ wraps modulo 256 (R131). -/
@[simp] theorem incr_seq (v : Byte) : incr config.seqWidth v = v + 1 := incr_type v

/-- CTR wraps modulo 65536 (R131). -/
@[simp] theorem incr_ctr (v : Half) : incr config.ctrWidth v = v + 1 := incr_type v

@[simp] theorem le16_length (v : Half) : (le16 v).length = 2 := rfl

/-- Two bytes are `le16` of their pair. -/
@[simp] theorem le16_pair (h l : Byte) : le16 (pair h l) = [l, h] := by simp [le16]

@[simp] theorem at_cons_zero (x : Byte) (b : List Byte) : at_ (x :: b) 0 = x := by simp [at_]

@[simp] theorem at_cons_succ (x : Byte) (b : List Byte) (i : Nat) : at_ (x :: b) (i + 1) = at_ b i := by simp [at_]

theorem at_append_left {b : List Byte} {i : Nat} (c : List Byte) (h : i < b.length) : at_ (b ++ c) i = at_ b i := by
  simp [at_, List.getElem?_append_left h]

theorem at_append_right {b : List Byte} {i : Nat} (c : List Byte) (h : b.length ≤ i) : at_ (b ++ c) i = at_ c (i - b.length) := by
  simp [at_, List.getElem?_append_right h]

theorem at_take {b : List Byte} {i n : Nat} (h : i < n) : at_ (b.take n) i = at_ b i := by
  simp [at_, h]

theorem at_drop (b : List Byte) (i n : Nat) : at_ (b.drop n) i = at_ b (n + i) := by
  simp [at_]

/-- A sequence that is long enough starts with its byte 0. -/
theorem eq_at_cons {b : List Byte} (h : 0 < b.length) : b = at_ b 0 :: b.drop 1 := by
  cases b with
  | nil => simp at h
  | cons x t => rfl

/-- The drop of a sequence that is long enough starts with the byte at that offset. -/
theorem drop_eq_at_cons {b : List Byte} {n : Nat} (h : n < b.length) : b.drop n = at_ b n :: b.drop (n + 1) := by
  simp [at_, List.getElem?_eq_getElem h]

/-- A 16-bit value is known by its two bytes. -/
theorem half_eq_iff (a b : Half) : a = b ↔ lo a = lo b ∧ hi a = hi b :=
  ⟨fun h => by simp [h], fun ⟨hl, hh⟩ => by rw [← pair_hi_lo a, ← pair_hi_lo b, hl, hh]⟩

theorem pair_eq_iff (h l : Byte) (v : Half) : pair h l = v ↔ l = lo v ∧ h = hi v := by
  simp [half_eq_iff, lo_pair, hi_pair]

/-- The field behind a byte sequence reads as it was written. -/
theorem rd16_le16 (p : List Byte) (v : Half) (rest : List Byte) : rd16 (p ++ le16 v ++ rest) p.length = v := by
  simp only [rd16, List.append_assoc]
  rw [at_append_right (i := p.length + 1) _ (by omega), at_append_right (i := p.length) _ (by omega)]
  simp [le16]

/-- A sequence with two bytes behind its first `n` is those `n` and the field. -/
theorem eq_take_append_le16 {b : List Byte} {n : Nat} (h : b.length = n + 2) : b = b.take n ++ le16 (rd16 b n) := by
  have h0 := drop_eq_at_cons (b := b) (n := n) (by omega)
  have h1 := drop_eq_at_cons (b := b) (n := n + 1) (by omega)
  have h2 : b.drop (n + 1 + 1) = [] := List.drop_eq_nil_of_le (by omega)
  conv_lhs => rw [← List.take_append_drop n b, h0, h1, h2]
  simp [rd16]

/-- A sequence of ten bytes, byte by byte. -/
theorem eq_ten {b : List Byte} (h : b.length = 10) :
    ∃ b0 b1 b2 b3 b4 b5 b6 b7 b8 b9, b = [b0, b1, b2, b3, b4, b5, b6, b7, b8, b9] := by
  match b, h with
  | [b0, b1, b2, b3, b4, b5, b6, b7, b8, b9], _ => exact ⟨_, _, _, _, _, _, _, _, _, _, rfl⟩

/-- A sequence of at least eight bytes, byte by byte, with the rest. -/
theorem eq_eight_append {b : List Byte} (h : 8 ≤ b.length) :
    ∃ b0 b1 b2 b3 b4 b5 b6 b7 rest, b = b0 :: b1 :: b2 :: b3 :: b4 :: b5 :: b6 :: b7 :: rest := by
  match b, h with
  | b0 :: b1 :: b2 :: b3 :: b4 :: b5 :: b6 :: b7 :: rest, _ => exact ⟨_, _, _, _, _, _, _, _, _, rfl⟩

end Sys2Proof.Machine
end

