-- ==== Sys2Proof/Laws/Checksum.lean ====
section
/-! SUPPORT. The Checksum Unit: what `crcOk` says, and that the CRC tells apart spans that differ in one byte. -/

namespace Sys2Proof.Machine

/-- `crcOk` compares the CRC field with the CRC of the span (R82). -/
theorem crcOk_iff (p : CrcParams) (b : List Byte) (l h : Byte) : crcOk p b l h = true ↔ pair h l = crcOf p b := by
  simp [crcOk]

/-- A span validates against its own CRC. -/
@[simp] theorem crcOk_self (p : CrcParams) (b : List Byte) : crcOk p b (lo (crcOf p b)) (hi (crcOf p b)) = true := by
  simp [crcOk]

/-- CCITT-FALSE puts the register out as it is (R79). -/
@[simp] theorem crcOutput_config (c : Half) : crcOutput config.crc c = c := by
  simp [crcOutput, config, ccittFalse]

/-- CCITT-FALSE takes a byte in as it is (R79). -/
@[simp] theorem crcInput_config (x : Byte) : crcInput config.crc x = x := by
  simp [crcInput, config, ccittFalse]

theorem crc16_eq (b : List Byte) : crc16 b = b.foldl (crcStep config.crc) 0xFFFF := by
  simp [crc16, crcOf, config, ccittFalse, crcOutput]

/-- Every CRC of the block is `crc16`. -/
@[simp] theorem crcOf_config (b : List Byte) : crcOf config.crc b = crc16 b := by rw [crc16]

/-- One shift of the register, with CRC_WIDTH 16 and the polynomial of R79 (R81). -/
theorem crcShift_config (c : Half) : crcShift config.crc c = if c.getLsbD 15 then (c <<< 1) ^^^ 0x1021 else c <<< 1 := rfl

/-- The top bit of the register goes to bit 0 of the next, since the polynomial is odd, so one shift loses nothing. -/
theorem crcShift_injective : Function.Injective (crcShift config.crc) := by
  intro c d h
  have bit (c : Half) : (crcShift config.crc c).getLsbD 0 = c.getLsbD 15 := by
    rw [crcShift_config]; split <;> simp_all
  have top : c.getLsbD 15 = d.getLsbD 15 := by rw [← bit c, ← bit d, h]
  have rest : c <<< 1 = d <<< 1 := by
    rw [crcShift_config, crcShift_config] at h
    rw [← top] at h
    split at h
    · simpa using h
    · exact h
  ext i hi
  rcases Nat.lt_or_ge i 15 with h15 | h15
  · have := congrArg (fun v : Half => v.getLsbD (i + 1)) rest
    simpa [BitVec.getLsbD_shiftLeft, show i + 1 < 16 by omega, BitVec.getLsbD_eq_getElem hi] using this
  · obtain rfl : i = 15 := by omega
    simpa [BitVec.getLsbD_eq_getElem] using top

theorem crcShifts_injective (n : Nat) : Function.Injective (crcShifts config.crc n) := by
  induction n with
  | zero => exact fun _ _ h => h
  | succ n ih => exact fun c d h => crcShift_injective (ih h)

/-- Two different register values stay different through one byte. -/
theorem crcStep_left_injective (x : Byte) : Function.Injective fun c => crcStep config.crc c x := by
  intro c d h
  simpa using crcShifts_injective 8 h

/-- Two different bytes lead one register value to different ones. -/
theorem crcStep_right_injective (c : Half) : Function.Injective (crcStep config.crc c) := by
  intro x y h
  have hp : pair x 0 = pair y 0 := by simpa using crcShifts_injective 8 h
  simpa using congrArg hi hp

theorem foldl_crcStep_injective (b : List Byte) : Function.Injective fun c => b.foldl (crcStep config.crc) c := by
  induction b with
  | nil => exact fun _ _ h => h
  | cons x b ih => exact fun c d h => crcStep_left_injective x (ih h)

/-- Spans that differ in exactly one byte have different CRCs. -/
theorem crc16_ne_of_byte (pre suf : List Byte) {x y : Byte} (h : x ≠ y) : crc16 (pre ++ x :: suf) ≠ crc16 (pre ++ y :: suf) := by
  simp only [crc16_eq, List.foldl_append, List.foldl_cons]
  exact fun e => h (crcStep_right_injective _ (foldl_crcStep_injective suf e))

end Sys2Proof.Machine
end

