-- ==== Sys2Proof/Laws/Codec.lean ====
section
/-! SUPPORT. The Frame Codec and the decoder: each check over the bytes it reads, and what each row's decoder answers. -/

namespace Sys2Proof.Machine

/-- The numbers of R6 that lengths and kinds are compared with. -/
theorem config_lengths : config.ackLen = 10 ∧ config.headerLen = 8 ∧ config.frameOverhead = 10 ∧ config.echoLen = 8 ∧
    config.ctrlLen = 25 ∧ config.ctrlMarkerOffset = 2 ∧ config.respBufSize = 247 ∧ config.reqPayloadLen = 0x08 := by decide

theorem config_kinds : config.sync0 = 0xAA ∧ config.sync1 = 0x55 ∧ config.ackKind = 0x40 ∧ config.retryKind = 0x04 ∧
    config.msgKind = 0x80 ∧ config.ctrlMarker0 = 0x4E ∧ config.ctrlMarker1 = 0x00 ∧ config.ctrlMarker2 = 0x53 ∧
    config.drainRetryAsAck = false := by decide

theorem syncOk_iff (b : List Byte) : syncOk config b = true ↔ at_ b 0 = 0xAA ∧ at_ b 1 = 0x55 := by
  simp [syncOk, config_kinds]

/-- Everything `decode_ack` checks, over ten bytes (R91). -/
theorem decodeAck_ten (b0 b1 b2 b3 b4 b5 b6 b7 b8 b9 expected : Byte) :
    decodeAck config [b0, b1, b2, b3, b4, b5, b6, b7, b8, b9] expected =
      if b0 = 0xAA ∧ b1 = 0x55 ∧ b3 = 0 ∧ b4 = 0 ∧ b6 = lo (crc16 [b2, b3, b4, b5]) ∧ b7 = hi (crc16 [b2, b3, b4, b5]) ∧
          b8 = 0xFF ∧ b9 = 0xFF then
        (if b2 = 0x40 then (if b5 = expected then .ok false else .error .sequenceMismatch)
         else if b2 = 0x04 then .ok true else .error .frameCorrupt)
      else .error .frameCorrupt := by
  have hs : syncOk config [b0, b1, b2, b3, b4, b5, b6, b7, b8, b9] = true ↔ b0 = 0xAA ∧ b1 = 0x55 := syncOk_iff _
  have hc : headerCrcOk config [b0, b1, b2, b3, b4, b5, b6, b7, b8, b9] = true ↔
      b6 = lo (crc16 [b2, b3, b4, b5]) ∧ b7 = hi (crc16 [b2, b3, b4, b5]) := by
    simp [headerCrcOk, crcOk_iff, pair_eq_iff, span]
  simp only [decodeAck, Bool.not_eq_true', ← Bool.not_eq_true, hs, hc, at_cons_zero, at_cons_succ, config_kinds, config_lengths]
  split_ifs <;> simp_all

theorem decodeAck_of_length {b : List Byte} (h : b.length ≠ 10) (expected : Byte) :
    decodeAck config b expected = .error .frameCorrupt := by
  simp [decodeAck, config_lengths, h]

/-- The errors of `decode_ack` (R91). -/
theorem decodeAck_error {b : List Byte} {expected : Byte} {e : FrameError} (h : decodeAck config b expected = .error e) :
    e = .frameCorrupt ∨ e = .sequenceMismatch := by
  unfold decodeAck at h
  split_ifs at h <;> cases h <;> simp

/-- Everything the header check reads (R90): eight bytes, whatever follows. -/
theorem msgHeaderOk_eight (b0 b1 b2 b3 b4 b5 b6 b7 : Byte) (rest : List Byte) :
    msgHeaderOk config (b0 :: b1 :: b2 :: b3 :: b4 :: b5 :: b6 :: b7 :: rest) = true ↔
      b0 = 0xAA ∧ b1 = 0x55 ∧ b2 = 0x80 ∧ b4 = 0 ∧ b6 = lo (crc16 [b2, b3, b4, b5]) ∧ b7 = hi (crc16 [b2, b3, b4, b5]) := by
  simp only [msgHeaderOk, syncOk, headerCrcOk, span, crcOk, crcOf_config, at_cons_zero, at_cons_succ, List.drop_succ_cons,
    List.drop_zero, List.take_succ_cons, List.take_zero, Bool.and_eq_true, beq_iff_eq, pair_eq_iff, config_kinds, and_assoc]

/-- Everything `decode_message` does with a header and what follows it (R93). -/
theorem decodeMessage_eight (b0 b1 b2 b3 b4 b5 b6 b7 : Byte) (body : List Byte) (ctr : Half) (tc iid rc : Byte) :
    decodeMessage config (b0 :: b1 :: b2 :: b3 :: b4 :: b5 :: b6 :: b7 :: body) ctr tc iid rc =
      if msgHeaderOk config [b0, b1, b2, b3, b4, b5, b6, b7] = true ∧ body.length = b3.toNat + 2 then
        (if b3.toNat < 8 ∨ body.take 8 ≠ echoHeader config ctr tc iid rc then .error .payloadMismatch
         else if rd16 body b3.toNat = crc16 (body.take b3.toNat) then
           .ok { echoSeq := b5, fields := (body.take b3.toNat).drop 8 }
         else .error .frameCorrupt)
      else .error .frameCorrupt := by
  have hm : msgHeaderOk config (b0 :: b1 :: b2 :: b3 :: b4 :: b5 :: b6 :: b7 :: body)
      = msgHeaderOk config [b0, b1, b2, b3, b4, b5, b6, b7] := by
    rw [Bool.eq_iff_iff, msgHeaderOk_eight, msgHeaderOk_eight]
  have hat (k : Nat) : at_ (b0 :: b1 :: b2 :: b3 :: b4 :: b5 :: b6 :: b7 :: body) (8 + k) = at_ body k := by
    rw [Nat.add_comm]; simp
  have hspan : span (b0 :: b1 :: b2 :: b3 :: b4 :: b5 :: b6 :: b7 :: body) 8 b3.toNat = body.take b3.toNat := by simp [span]
  have hcrc : crcOk config.crc (body.take b3.toNat) (at_ body b3.toNat) (at_ body (b3.toNat + 1)) = true ↔
      rd16 body b3.toNat = crc16 (body.take b3.toNat) := by rw [crcOk_iff, rd16, crcOf_config]
  rw [decodeMessage, hm]
  cases hh : msgHeaderOk config [b0, b1, b2, b3, b4, b5, b6, b7]
  · simp
  · simp only [config_lengths, at_cons_succ, at_cons_zero, hspan, hat, Nat.add_assoc, List.length_cons, List.take_take, true_and]
    rw [if_neg (by simp)]
    by_cases hl : body.length = b3.toNat + 2
    · rw [if_neg (by omega), if_pos hl]
      by_cases h8 : b3.toNat < 8
      · simp [h8]
      · rw [if_neg h8, show min 8 b3.toNat = 8 by omega]
        simp only [h8, false_or]
        by_cases he : body.take 8 = echoHeader config ctr tc iid rc
        · simp only [he, ne_eq, not_true_eq_false, if_false]
          by_cases hc : rd16 body b3.toNat = crc16 (body.take b3.toNat)
          · rw [if_pos hc, if_neg (by rw [hcrc.mpr hc]; decide)]
          · rw [if_neg hc, if_pos (by rw [Bool.not_eq_true', ← Bool.not_eq_true]; exact fun h => hc (hcrc.mp h))]
        · simp [he]
    · rw [if_pos (by omega), if_neg hl]

/-- The errors of `decode_message` (R93). -/
theorem decodeMessage_error {b : List Byte} {ctr : Half} {tc iid rc : Byte} {e : FrameError}
    (h : decodeMessage config b ctr tc iid rc = .error e) : e = .frameCorrupt ∨ e = .payloadMismatch := by
  unfold decodeMessage at h
  simp only [] at h
  split_ifs at h <;> cases h <;> simp

/-- The bytes of each frame, byte by byte. -/
theorem encodeAckFrame_eq (kind : Byte) (f : AckFrame) : encodeAckFrame config kind f =
    [0xAA, 0x55, kind, 0x00, 0x00, f.seq, lo f.hcrc, hi f.hcrc, f.trailer0, f.trailer1] := rfl

theorem encodeMessageFrame_eq (f : MessageFrame) : encodeMessageFrame config f =
    0xAA :: 0x55 :: 0x80 :: f.len :: 0x00 :: f.seq :: lo f.hcrc :: hi f.hcrc :: (f.payload ++ le16 f.pcrc) := rfl

theorem encodeControlFrame_eq (body : List Byte) : encodeControlFrame config body = 0xAA :: 0x55 :: 0x4E :: 0x00 :: 0x53 :: body := by
  simp [encodeControlFrame, config_lengths, config_kinds, sync]

theorem encodeSentAck_eq (f : SentAck) : encodeSentAck config f =
    [0xAA, 0x55, 0x40, 0x00, 0x00, f.seq, lo f.hcrc, hi f.hcrc, 0xFF, 0xFF] := rfl

theorem encodeRequestFrame_eq (f : RequestFrame) : encodeRequestFrame config f =
    [0xAA, 0x55, 0x80, 0x08, 0x00, f.seq, lo f.hcrc, hi f.hcrc, 0x80, f.targetClass, 0x01, 0x00, f.instanceId, lo f.counter,
      hi f.counter, f.requestCode, lo f.pcrc, hi f.pcrc] := rfl

theorem wf_messageResponse (f : MessageFrame) : Instr.wf (.messageResponse f) = true ↔ f.payload.length = f.len.toNat := by
  simp [Instr.wf, Instr.check]

theorem wf_control (body : List Byte) : Instr.wf (.control body) = true ↔ body.length = 20 := by
  simp [Instr.wf, Instr.check, ctrlBodyLen, config_lengths]

/-- What a received frame's decoder can answer (R70): one of four rows, each with its own row decoder. -/
theorem decodeReceive_ok {b rest : List Byte} {i : Instr} (h : decodeReceive config b = .ok (i, rest)) :
    at_ b 0 = 0xAA ∧ at_ b 1 = 0x55 ∧
      ((at_ b 2 = 0x40 ∧ decodeAckRow config .ack b = .ok (i, rest)) ∨
       (at_ b 2 = 0x04 ∧ decodeAckRow config .retryAck b = .ok (i, rest)) ∨
       (at_ b 2 = 0x80 ∧ decodeMessageRow config b = .ok (i, rest)) ∨
       (at_ b 2 = 0x4E ∧ decodeControlRow config b = .ok (i, rest))) := by
  unfold decodeReceive at h
  split_ifs at h with h3 hs ha hr hm hl hc
  all_goals
    rw [Bool.not_eq_true', ← Bool.not_eq_true, not_not, syncOk_iff] at hs
    refine ⟨hs.1, hs.2, ?_⟩
  · exact .inl ⟨ha, h⟩
  · exact .inr (.inl ⟨hr, h⟩)
  · exact .inr (.inr (.inl ⟨hm, h⟩))
  · exact .inr (.inr (.inr ⟨hc, h⟩))

end Sys2Proof.Machine
end

