-- ==== Sys2Proof/Laws/State.lean ====
section
/-! SUPPORT. One lemma per field per named update of State, true by unfolding the update once. -/

namespace Sys2Proof.Machine

variable (s : State)

@[simp] theorem rxDrop_state (n : Nat) : (rxDrop s n).state = s.state := rfl
@[simp] theorem rxDrop_retried (n : Nat) : (rxDrop s n).retried = s.retried := rfl
@[simp] theorem rxDrop_rej (n : Nat) : (rxDrop s n).rej = s.rej := rfl
@[simp] theorem rxDrop_result (n : Nat) : (rxDrop s n).result = s.result := rfl
@[simp] theorem rxDrop_reqTc (n : Nat) : (rxDrop s n).reqTc = s.reqTc := rfl
@[simp] theorem rxDrop_reqIid (n : Nat) : (rxDrop s n).reqIid = s.reqIid := rfl
@[simp] theorem rxDrop_reqRc (n : Nat) : (rxDrop s n).reqRc = s.reqRc := rfl
@[simp] theorem rxDrop_reqFlags (n : Nat) : (rxDrop s n).reqFlags = s.reqFlags := rfl
@[simp] theorem rxDrop_xTc (n : Nat) : (rxDrop s n).xTc = s.xTc := rfl
@[simp] theorem rxDrop_xIid (n : Nat) : (rxDrop s n).xIid = s.xIid := rfl
@[simp] theorem rxDrop_xRc (n : Nat) : (rxDrop s n).xRc = s.xRc := rfl
@[simp] theorem rxDrop_xExp (n : Nat) : (rxDrop s n).xExp = s.xExp := rfl
@[simp] theorem rxDrop_seq (n : Nat) : (rxDrop s n).seq = s.seq := rfl
@[simp] theorem rxDrop_ctr (n : Nat) : (rxDrop s n).ctr = s.ctr := rfl
@[simp] theorem rxDrop_respSeq (n : Nat) : (rxDrop s n).respSeq = s.respSeq := rfl
@[simp] theorem rxDrop_respLen (n : Nat) : (rxDrop s n).respLen = s.respLen := rfl
@[simp] theorem rxDrop_respBuf (n : Nat) : (rxDrop s n).respBuf = s.respBuf := rfl
@[simp] theorem rxDrop_crcAcc (n : Nat) : (rxDrop s n).crcAcc = s.crcAcc := rfl
@[simp] theorem rxDrop_crcData (n : Nat) : (rxDrop s n).crcData = s.crcData := rfl
@[simp] theorem rxDrop_rspPhase (n : Nat) : (rxDrop s n).rspPhase = s.rspPhase := rfl
@[simp] theorem rxDrop_frameBuf (n : Nat) : (rxDrop s n).frameBuf = s.frameBuf := rfl
@[simp] theorem rxDrop_rx (n : Nat) : (rxDrop s n).rx = s.rx.drop n := rfl
@[simp] theorem rxDrop_tx (n : Nat) : (rxDrop s n).tx = s.tx := rfl
@[simp] theorem rxDrop_agenda (n : Nat) : (rxDrop s n).agenda = s.agenda := rfl
@[simp] theorem rxDrop_hostReads (n : Nat) : (rxDrop s n).hostReads = s.hostReads := rfl

@[simp] theorem txSend_state (f : List Byte) : (txSend s f).state = s.state := rfl
@[simp] theorem txSend_retried (f : List Byte) : (txSend s f).retried = s.retried := rfl
@[simp] theorem txSend_rej (f : List Byte) : (txSend s f).rej = s.rej := rfl
@[simp] theorem txSend_result (f : List Byte) : (txSend s f).result = s.result := rfl
@[simp] theorem txSend_reqTc (f : List Byte) : (txSend s f).reqTc = s.reqTc := rfl
@[simp] theorem txSend_reqIid (f : List Byte) : (txSend s f).reqIid = s.reqIid := rfl
@[simp] theorem txSend_reqRc (f : List Byte) : (txSend s f).reqRc = s.reqRc := rfl
@[simp] theorem txSend_reqFlags (f : List Byte) : (txSend s f).reqFlags = s.reqFlags := rfl
@[simp] theorem txSend_xTc (f : List Byte) : (txSend s f).xTc = s.xTc := rfl
@[simp] theorem txSend_xIid (f : List Byte) : (txSend s f).xIid = s.xIid := rfl
@[simp] theorem txSend_xRc (f : List Byte) : (txSend s f).xRc = s.xRc := rfl
@[simp] theorem txSend_xExp (f : List Byte) : (txSend s f).xExp = s.xExp := rfl
@[simp] theorem txSend_seq (f : List Byte) : (txSend s f).seq = s.seq := rfl
@[simp] theorem txSend_ctr (f : List Byte) : (txSend s f).ctr = s.ctr := rfl
@[simp] theorem txSend_respSeq (f : List Byte) : (txSend s f).respSeq = s.respSeq := rfl
@[simp] theorem txSend_respLen (f : List Byte) : (txSend s f).respLen = s.respLen := rfl
@[simp] theorem txSend_respBuf (f : List Byte) : (txSend s f).respBuf = s.respBuf := rfl
@[simp] theorem txSend_crcAcc (f : List Byte) : (txSend s f).crcAcc = s.crcAcc := rfl
@[simp] theorem txSend_crcData (f : List Byte) : (txSend s f).crcData = s.crcData := rfl
@[simp] theorem txSend_rspPhase (f : List Byte) : (txSend s f).rspPhase = s.rspPhase := rfl
@[simp] theorem txSend_frameBuf (f : List Byte) : (txSend s f).frameBuf = s.frameBuf := rfl
@[simp] theorem txSend_rx (f : List Byte) : (txSend s f).rx = s.rx := rfl
@[simp] theorem txSend_tx (f : List Byte) : (txSend s f).tx = s.tx ++ f := rfl
@[simp] theorem txSend_agenda (f : List Byte) : (txSend s f).agenda = s.agenda := rfl
@[simp] theorem txSend_hostReads (f : List Byte) : (txSend s f).hostReads = s.hostReads := rfl

@[simp] theorem pushFront_state (b : List Byte) : (pushFront b s).state = s.state := rfl
@[simp] theorem pushFront_retried (b : List Byte) : (pushFront b s).retried = s.retried := rfl
@[simp] theorem pushFront_rej (b : List Byte) : (pushFront b s).rej = s.rej := rfl
@[simp] theorem pushFront_result (b : List Byte) : (pushFront b s).result = s.result := rfl
@[simp] theorem pushFront_reqTc (b : List Byte) : (pushFront b s).reqTc = s.reqTc := rfl
@[simp] theorem pushFront_reqIid (b : List Byte) : (pushFront b s).reqIid = s.reqIid := rfl
@[simp] theorem pushFront_reqRc (b : List Byte) : (pushFront b s).reqRc = s.reqRc := rfl
@[simp] theorem pushFront_reqFlags (b : List Byte) : (pushFront b s).reqFlags = s.reqFlags := rfl
@[simp] theorem pushFront_xTc (b : List Byte) : (pushFront b s).xTc = s.xTc := rfl
@[simp] theorem pushFront_xIid (b : List Byte) : (pushFront b s).xIid = s.xIid := rfl
@[simp] theorem pushFront_xRc (b : List Byte) : (pushFront b s).xRc = s.xRc := rfl
@[simp] theorem pushFront_xExp (b : List Byte) : (pushFront b s).xExp = s.xExp := rfl
@[simp] theorem pushFront_seq (b : List Byte) : (pushFront b s).seq = s.seq := rfl
@[simp] theorem pushFront_ctr (b : List Byte) : (pushFront b s).ctr = s.ctr := rfl
@[simp] theorem pushFront_respSeq (b : List Byte) : (pushFront b s).respSeq = s.respSeq := rfl
@[simp] theorem pushFront_respLen (b : List Byte) : (pushFront b s).respLen = s.respLen := rfl
@[simp] theorem pushFront_respBuf (b : List Byte) : (pushFront b s).respBuf = s.respBuf := rfl
@[simp] theorem pushFront_crcAcc (b : List Byte) : (pushFront b s).crcAcc = s.crcAcc := rfl
@[simp] theorem pushFront_crcData (b : List Byte) : (pushFront b s).crcData = s.crcData := rfl
@[simp] theorem pushFront_rspPhase (b : List Byte) : (pushFront b s).rspPhase = s.rspPhase := rfl
@[simp] theorem pushFront_frameBuf (b : List Byte) : (pushFront b s).frameBuf = s.frameBuf := rfl
@[simp] theorem pushFront_rx (b : List Byte) : (pushFront b s).rx = b ++ s.rx := rfl
@[simp] theorem pushFront_tx (b : List Byte) : (pushFront b s).tx = s.tx := rfl
@[simp] theorem pushFront_agenda (b : List Byte) : (pushFront b s).agenda = s.agenda := rfl
@[simp] theorem pushFront_hostReads (b : List Byte) : (pushFront b s).hostReads = s.hostReads := rfl

@[simp] theorem advance_state : (advance s).state = s.state := rfl
@[simp] theorem advance_retried : (advance s).retried = s.retried := rfl
@[simp] theorem advance_rej : (advance s).rej = s.rej := rfl
@[simp] theorem advance_result : (advance s).result = s.result := rfl
@[simp] theorem advance_reqTc : (advance s).reqTc = s.reqTc := rfl
@[simp] theorem advance_reqIid : (advance s).reqIid = s.reqIid := rfl
@[simp] theorem advance_reqRc : (advance s).reqRc = s.reqRc := rfl
@[simp] theorem advance_reqFlags : (advance s).reqFlags = s.reqFlags := rfl
@[simp] theorem advance_xTc : (advance s).xTc = s.xTc := rfl
@[simp] theorem advance_xIid : (advance s).xIid = s.xIid := rfl
@[simp] theorem advance_xRc : (advance s).xRc = s.xRc := rfl
@[simp] theorem advance_xExp : (advance s).xExp = s.xExp := rfl
@[simp] theorem advance_seq : (advance s).seq = s.seq + 1 := incr_seq s.seq
@[simp] theorem advance_ctr : (advance s).ctr = s.ctr + 1 := incr_ctr s.ctr
@[simp] theorem advance_respSeq : (advance s).respSeq = s.respSeq := rfl
@[simp] theorem advance_respLen : (advance s).respLen = s.respLen := rfl
@[simp] theorem advance_respBuf : (advance s).respBuf = s.respBuf := rfl
@[simp] theorem advance_crcAcc : (advance s).crcAcc = s.crcAcc := rfl
@[simp] theorem advance_crcData : (advance s).crcData = s.crcData := rfl
@[simp] theorem advance_rspPhase : (advance s).rspPhase = s.rspPhase := rfl
@[simp] theorem advance_frameBuf : (advance s).frameBuf = s.frameBuf := rfl
@[simp] theorem advance_rx : (advance s).rx = s.rx := rfl
@[simp] theorem advance_tx : (advance s).tx = s.tx := rfl
@[simp] theorem advance_agenda : (advance s).agenda = s.agenda := rfl
@[simp] theorem advance_hostReads : (advance s).hostReads = s.hostReads := rfl

@[simp] theorem finish_state (r : ResultCode) : (finish s r).state = if r = .ok then .done else .failed := rfl
@[simp] theorem finish_retried (r : ResultCode) : (finish s r).retried = s.retried := rfl
@[simp] theorem finish_rej (r : ResultCode) : (finish s r).rej = s.rej := rfl
@[simp] theorem finish_result (r : ResultCode) : (finish s r).result = r := rfl
@[simp] theorem finish_reqTc (r : ResultCode) : (finish s r).reqTc = s.reqTc := rfl
@[simp] theorem finish_reqIid (r : ResultCode) : (finish s r).reqIid = s.reqIid := rfl
@[simp] theorem finish_reqRc (r : ResultCode) : (finish s r).reqRc = s.reqRc := rfl
@[simp] theorem finish_reqFlags (r : ResultCode) : (finish s r).reqFlags = s.reqFlags := rfl
@[simp] theorem finish_xTc (r : ResultCode) : (finish s r).xTc = s.xTc := rfl
@[simp] theorem finish_xIid (r : ResultCode) : (finish s r).xIid = s.xIid := rfl
@[simp] theorem finish_xRc (r : ResultCode) : (finish s r).xRc = s.xRc := rfl
@[simp] theorem finish_xExp (r : ResultCode) : (finish s r).xExp = s.xExp := rfl
@[simp] theorem finish_seq (r : ResultCode) : (finish s r).seq = s.seq + 1 := incr_seq s.seq
@[simp] theorem finish_ctr (r : ResultCode) : (finish s r).ctr = s.ctr + 1 := incr_ctr s.ctr
@[simp] theorem finish_respSeq (r : ResultCode) : (finish s r).respSeq = s.respSeq := rfl
@[simp] theorem finish_respLen (r : ResultCode) : (finish s r).respLen = if r = .ok then s.respLen else 0x00 := rfl
@[simp] theorem finish_respBuf (r : ResultCode) : (finish s r).respBuf = s.respBuf := rfl
@[simp] theorem finish_crcAcc (r : ResultCode) : (finish s r).crcAcc = s.crcAcc := rfl
@[simp] theorem finish_crcData (r : ResultCode) : (finish s r).crcData = s.crcData := rfl
@[simp] theorem finish_rspPhase (r : ResultCode) : (finish s r).rspPhase = .hdr := rfl
@[simp] theorem finish_frameBuf (r : ResultCode) : (finish s r).frameBuf = [] := rfl
@[simp] theorem finish_rx (r : ResultCode) : (finish s r).rx = s.rx := rfl
@[simp] theorem finish_tx (r : ResultCode) : (finish s r).tx = s.tx := rfl
@[simp] theorem finish_agenda (r : ResultCode) : (finish s r).agenda = s.agenda := rfl
@[simp] theorem finish_hostReads (r : ResultCode) : (finish s r).hostReads = s.hostReads := rfl

@[simp] theorem beginExchange_state : (beginExchange s).state = .draining := rfl
@[simp] theorem beginExchange_retried : (beginExchange s).retried = false := rfl
@[simp] theorem beginExchange_rej : (beginExchange s).rej = false := rfl
@[simp] theorem beginExchange_result : (beginExchange s).result = .none := rfl
@[simp] theorem beginExchange_reqTc : (beginExchange s).reqTc = s.reqTc := rfl
@[simp] theorem beginExchange_reqIid : (beginExchange s).reqIid = s.reqIid := rfl
@[simp] theorem beginExchange_reqRc : (beginExchange s).reqRc = s.reqRc := rfl
@[simp] theorem beginExchange_reqFlags : (beginExchange s).reqFlags = s.reqFlags := rfl
@[simp] theorem beginExchange_xTc : (beginExchange s).xTc = s.reqTc := rfl
@[simp] theorem beginExchange_xIid : (beginExchange s).xIid = s.reqIid := rfl
@[simp] theorem beginExchange_xRc : (beginExchange s).xRc = s.reqRc := rfl
@[simp] theorem beginExchange_xExp : (beginExchange s).xExp = expectsResponse s := rfl
@[simp] theorem beginExchange_seq : (beginExchange s).seq = s.seq := rfl
@[simp] theorem beginExchange_ctr : (beginExchange s).ctr = s.ctr := rfl
@[simp] theorem beginExchange_respSeq : (beginExchange s).respSeq = 0x00 := rfl
@[simp] theorem beginExchange_respLen : (beginExchange s).respLen = 0x00 := rfl
@[simp] theorem beginExchange_respBuf : (beginExchange s).respBuf = s.respBuf := rfl
@[simp] theorem beginExchange_crcAcc : (beginExchange s).crcAcc = s.crcAcc := rfl
@[simp] theorem beginExchange_crcData : (beginExchange s).crcData = s.crcData := rfl
@[simp] theorem beginExchange_rspPhase : (beginExchange s).rspPhase = .hdr := rfl
@[simp] theorem beginExchange_frameBuf : (beginExchange s).frameBuf = [] := rfl
@[simp] theorem beginExchange_rx : (beginExchange s).rx = s.rx := rfl
@[simp] theorem beginExchange_tx : (beginExchange s).tx = s.tx := rfl
@[simp] theorem beginExchange_agenda : (beginExchange s).agenda = s.agenda := rfl
@[simp] theorem beginExchange_hostReads : (beginExchange s).hostReads = s.hostReads := rfl

@[simp] theorem sendRequest_state (f : List Byte) : (sendRequest s f).state = .awaitingAck := rfl
@[simp] theorem sendRequest_retried (f : List Byte) : (sendRequest s f).retried = s.retried := rfl
@[simp] theorem sendRequest_rej (f : List Byte) : (sendRequest s f).rej = s.rej := rfl
@[simp] theorem sendRequest_result (f : List Byte) : (sendRequest s f).result = s.result := rfl
@[simp] theorem sendRequest_reqTc (f : List Byte) : (sendRequest s f).reqTc = s.reqTc := rfl
@[simp] theorem sendRequest_reqIid (f : List Byte) : (sendRequest s f).reqIid = s.reqIid := rfl
@[simp] theorem sendRequest_reqRc (f : List Byte) : (sendRequest s f).reqRc = s.reqRc := rfl
@[simp] theorem sendRequest_reqFlags (f : List Byte) : (sendRequest s f).reqFlags = s.reqFlags := rfl
@[simp] theorem sendRequest_xTc (f : List Byte) : (sendRequest s f).xTc = s.xTc := rfl
@[simp] theorem sendRequest_xIid (f : List Byte) : (sendRequest s f).xIid = s.xIid := rfl
@[simp] theorem sendRequest_xRc (f : List Byte) : (sendRequest s f).xRc = s.xRc := rfl
@[simp] theorem sendRequest_xExp (f : List Byte) : (sendRequest s f).xExp = s.xExp := rfl
@[simp] theorem sendRequest_seq (f : List Byte) : (sendRequest s f).seq = s.seq := rfl
@[simp] theorem sendRequest_ctr (f : List Byte) : (sendRequest s f).ctr = s.ctr := rfl
@[simp] theorem sendRequest_respSeq (f : List Byte) : (sendRequest s f).respSeq = s.respSeq := rfl
@[simp] theorem sendRequest_respLen (f : List Byte) : (sendRequest s f).respLen = s.respLen := rfl
@[simp] theorem sendRequest_respBuf (f : List Byte) : (sendRequest s f).respBuf = s.respBuf := rfl
@[simp] theorem sendRequest_crcAcc (f : List Byte) : (sendRequest s f).crcAcc = s.crcAcc := rfl
@[simp] theorem sendRequest_crcData (f : List Byte) : (sendRequest s f).crcData = s.crcData := rfl
@[simp] theorem sendRequest_rspPhase (f : List Byte) : (sendRequest s f).rspPhase = s.rspPhase := rfl
@[simp] theorem sendRequest_frameBuf (f : List Byte) : (sendRequest s f).frameBuf = s.frameBuf := rfl
@[simp] theorem sendRequest_rx (f : List Byte) : (sendRequest s f).rx = s.rx := rfl
@[simp] theorem sendRequest_tx (f : List Byte) : (sendRequest s f).tx = s.tx ++ f := rfl
@[simp] theorem sendRequest_agenda (f : List Byte) : (sendRequest s f).agenda = s.agenda := rfl
@[simp] theorem sendRequest_hostReads (f : List Byte) : (sendRequest s f).hostReads = s.hostReads := rfl

@[simp] theorem resendRequest_state (f : List Byte) : (resendRequest s f).state = .retrySend := rfl
@[simp] theorem resendRequest_retried (f : List Byte) : (resendRequest s f).retried = true := rfl
@[simp] theorem resendRequest_rej (f : List Byte) : (resendRequest s f).rej = s.rej := rfl
@[simp] theorem resendRequest_result (f : List Byte) : (resendRequest s f).result = s.result := rfl
@[simp] theorem resendRequest_reqTc (f : List Byte) : (resendRequest s f).reqTc = s.reqTc := rfl
@[simp] theorem resendRequest_reqIid (f : List Byte) : (resendRequest s f).reqIid = s.reqIid := rfl
@[simp] theorem resendRequest_reqRc (f : List Byte) : (resendRequest s f).reqRc = s.reqRc := rfl
@[simp] theorem resendRequest_reqFlags (f : List Byte) : (resendRequest s f).reqFlags = s.reqFlags := rfl
@[simp] theorem resendRequest_xTc (f : List Byte) : (resendRequest s f).xTc = s.xTc := rfl
@[simp] theorem resendRequest_xIid (f : List Byte) : (resendRequest s f).xIid = s.xIid := rfl
@[simp] theorem resendRequest_xRc (f : List Byte) : (resendRequest s f).xRc = s.xRc := rfl
@[simp] theorem resendRequest_xExp (f : List Byte) : (resendRequest s f).xExp = s.xExp := rfl
@[simp] theorem resendRequest_seq (f : List Byte) : (resendRequest s f).seq = s.seq := rfl
@[simp] theorem resendRequest_ctr (f : List Byte) : (resendRequest s f).ctr = s.ctr := rfl
@[simp] theorem resendRequest_respSeq (f : List Byte) : (resendRequest s f).respSeq = s.respSeq := rfl
@[simp] theorem resendRequest_respLen (f : List Byte) : (resendRequest s f).respLen = s.respLen := rfl
@[simp] theorem resendRequest_respBuf (f : List Byte) : (resendRequest s f).respBuf = s.respBuf := rfl
@[simp] theorem resendRequest_crcAcc (f : List Byte) : (resendRequest s f).crcAcc = s.crcAcc := rfl
@[simp] theorem resendRequest_crcData (f : List Byte) : (resendRequest s f).crcData = s.crcData := rfl
@[simp] theorem resendRequest_rspPhase (f : List Byte) : (resendRequest s f).rspPhase = s.rspPhase := rfl
@[simp] theorem resendRequest_frameBuf (f : List Byte) : (resendRequest s f).frameBuf = s.frameBuf := rfl
@[simp] theorem resendRequest_rx (f : List Byte) : (resendRequest s f).rx = s.rx := rfl
@[simp] theorem resendRequest_tx (f : List Byte) : (resendRequest s f).tx = s.tx ++ f := rfl
@[simp] theorem resendRequest_agenda (f : List Byte) : (resendRequest s f).agenda = s.agenda := rfl
@[simp] theorem resendRequest_hostReads (f : List Byte) : (resendRequest s f).hostReads = s.hostReads := rfl

@[simp] theorem sendAck_state (f : List Byte) : (sendAck s f).state = .drainingTrailing := rfl
@[simp] theorem sendAck_retried (f : List Byte) : (sendAck s f).retried = s.retried := rfl
@[simp] theorem sendAck_rej (f : List Byte) : (sendAck s f).rej = s.rej := rfl
@[simp] theorem sendAck_result (f : List Byte) : (sendAck s f).result = s.result := rfl
@[simp] theorem sendAck_reqTc (f : List Byte) : (sendAck s f).reqTc = s.reqTc := rfl
@[simp] theorem sendAck_reqIid (f : List Byte) : (sendAck s f).reqIid = s.reqIid := rfl
@[simp] theorem sendAck_reqRc (f : List Byte) : (sendAck s f).reqRc = s.reqRc := rfl
@[simp] theorem sendAck_reqFlags (f : List Byte) : (sendAck s f).reqFlags = s.reqFlags := rfl
@[simp] theorem sendAck_xTc (f : List Byte) : (sendAck s f).xTc = s.xTc := rfl
@[simp] theorem sendAck_xIid (f : List Byte) : (sendAck s f).xIid = s.xIid := rfl
@[simp] theorem sendAck_xRc (f : List Byte) : (sendAck s f).xRc = s.xRc := rfl
@[simp] theorem sendAck_xExp (f : List Byte) : (sendAck s f).xExp = s.xExp := rfl
@[simp] theorem sendAck_seq (f : List Byte) : (sendAck s f).seq = s.seq := rfl
@[simp] theorem sendAck_ctr (f : List Byte) : (sendAck s f).ctr = s.ctr := rfl
@[simp] theorem sendAck_respSeq (f : List Byte) : (sendAck s f).respSeq = s.respSeq := rfl
@[simp] theorem sendAck_respLen (f : List Byte) : (sendAck s f).respLen = s.respLen := rfl
@[simp] theorem sendAck_respBuf (f : List Byte) : (sendAck s f).respBuf = s.respBuf := rfl
@[simp] theorem sendAck_crcAcc (f : List Byte) : (sendAck s f).crcAcc = s.crcAcc := rfl
@[simp] theorem sendAck_crcData (f : List Byte) : (sendAck s f).crcData = s.crcData := rfl
@[simp] theorem sendAck_rspPhase (f : List Byte) : (sendAck s f).rspPhase = s.rspPhase := rfl
@[simp] theorem sendAck_frameBuf (f : List Byte) : (sendAck s f).frameBuf = s.frameBuf := rfl
@[simp] theorem sendAck_rx (f : List Byte) : (sendAck s f).rx = s.rx := rfl
@[simp] theorem sendAck_tx (f : List Byte) : (sendAck s f).tx = s.tx ++ f := rfl
@[simp] theorem sendAck_agenda (f : List Byte) : (sendAck s f).agenda = s.agenda := rfl
@[simp] theorem sendAck_hostReads (f : List Byte) : (sendAck s f).hostReads = s.hostReads := rfl

@[simp] theorem ackSuccess_state : (ackSuccess s).state = if s.xExp then .awaitingResponse else .drainingTrailing := by unfold ackSuccess; cases s.xExp <;> rfl
@[simp] theorem ackSuccess_retried : (ackSuccess s).retried = s.retried := by unfold ackSuccess; cases s.xExp <;> rfl
@[simp] theorem ackSuccess_rej : (ackSuccess s).rej = s.rej := by unfold ackSuccess; cases s.xExp <;> rfl
@[simp] theorem ackSuccess_result : (ackSuccess s).result = s.result := by unfold ackSuccess; cases s.xExp <;> rfl
@[simp] theorem ackSuccess_reqTc : (ackSuccess s).reqTc = s.reqTc := by unfold ackSuccess; cases s.xExp <;> rfl
@[simp] theorem ackSuccess_reqIid : (ackSuccess s).reqIid = s.reqIid := by unfold ackSuccess; cases s.xExp <;> rfl
@[simp] theorem ackSuccess_reqRc : (ackSuccess s).reqRc = s.reqRc := by unfold ackSuccess; cases s.xExp <;> rfl
@[simp] theorem ackSuccess_reqFlags : (ackSuccess s).reqFlags = s.reqFlags := by unfold ackSuccess; cases s.xExp <;> rfl
@[simp] theorem ackSuccess_xTc : (ackSuccess s).xTc = s.xTc := by unfold ackSuccess; cases s.xExp <;> rfl
@[simp] theorem ackSuccess_xIid : (ackSuccess s).xIid = s.xIid := by unfold ackSuccess; cases s.xExp <;> rfl
@[simp] theorem ackSuccess_xRc : (ackSuccess s).xRc = s.xRc := by unfold ackSuccess; cases s.xExp <;> rfl
@[simp] theorem ackSuccess_xExp : (ackSuccess s).xExp = s.xExp := by unfold ackSuccess; cases s.xExp <;> rfl
@[simp] theorem ackSuccess_seq : (ackSuccess s).seq = s.seq := by unfold ackSuccess; cases s.xExp <;> rfl
@[simp] theorem ackSuccess_ctr : (ackSuccess s).ctr = s.ctr := by unfold ackSuccess; cases s.xExp <;> rfl
@[simp] theorem ackSuccess_respSeq : (ackSuccess s).respSeq = s.respSeq := by unfold ackSuccess; cases s.xExp <;> rfl
@[simp] theorem ackSuccess_respLen : (ackSuccess s).respLen = s.respLen := by unfold ackSuccess; cases s.xExp <;> rfl
@[simp] theorem ackSuccess_respBuf : (ackSuccess s).respBuf = s.respBuf := by unfold ackSuccess; cases s.xExp <;> rfl
@[simp] theorem ackSuccess_crcAcc : (ackSuccess s).crcAcc = s.crcAcc := by unfold ackSuccess; cases s.xExp <;> rfl
@[simp] theorem ackSuccess_crcData : (ackSuccess s).crcData = s.crcData := by unfold ackSuccess; cases s.xExp <;> rfl
@[simp] theorem ackSuccess_rspPhase : (ackSuccess s).rspPhase = if s.xExp then .hdr else s.rspPhase := by unfold ackSuccess; cases s.xExp <;> rfl
@[simp] theorem ackSuccess_frameBuf : (ackSuccess s).frameBuf = if s.xExp then [] else s.frameBuf := by unfold ackSuccess; cases s.xExp <;> rfl
@[simp] theorem ackSuccess_rx : (ackSuccess s).rx = s.rx := by unfold ackSuccess; cases s.xExp <;> rfl
@[simp] theorem ackSuccess_tx : (ackSuccess s).tx = s.tx := by unfold ackSuccess; cases s.xExp <;> rfl
@[simp] theorem ackSuccess_agenda : (ackSuccess s).agenda = s.agenda := by unfold ackSuccess; cases s.xExp <;> rfl
@[simp] theorem ackSuccess_hostReads : (ackSuccess s).hostReads = s.hostReads := by unfold ackSuccess; cases s.xExp <;> rfl

@[simp] theorem acceptResponse_state (r : Response) : (acceptResponse s r).state = .sendingResponseAck := rfl
@[simp] theorem acceptResponse_retried (r : Response) : (acceptResponse s r).retried = s.retried := rfl
@[simp] theorem acceptResponse_rej (r : Response) : (acceptResponse s r).rej = s.rej := rfl
@[simp] theorem acceptResponse_result (r : Response) : (acceptResponse s r).result = s.result := rfl
@[simp] theorem acceptResponse_reqTc (r : Response) : (acceptResponse s r).reqTc = s.reqTc := rfl
@[simp] theorem acceptResponse_reqIid (r : Response) : (acceptResponse s r).reqIid = s.reqIid := rfl
@[simp] theorem acceptResponse_reqRc (r : Response) : (acceptResponse s r).reqRc = s.reqRc := rfl
@[simp] theorem acceptResponse_reqFlags (r : Response) : (acceptResponse s r).reqFlags = s.reqFlags := rfl
@[simp] theorem acceptResponse_xTc (r : Response) : (acceptResponse s r).xTc = s.xTc := rfl
@[simp] theorem acceptResponse_xIid (r : Response) : (acceptResponse s r).xIid = s.xIid := rfl
@[simp] theorem acceptResponse_xRc (r : Response) : (acceptResponse s r).xRc = s.xRc := rfl
@[simp] theorem acceptResponse_xExp (r : Response) : (acceptResponse s r).xExp = s.xExp := rfl
@[simp] theorem acceptResponse_seq (r : Response) : (acceptResponse s r).seq = s.seq := rfl
@[simp] theorem acceptResponse_ctr (r : Response) : (acceptResponse s r).ctr = s.ctr := rfl
@[simp] theorem acceptResponse_respSeq (r : Response) : (acceptResponse s r).respSeq = r.echoSeq := rfl
@[simp] theorem acceptResponse_respLen (r : Response) : (acceptResponse s r).respLen = BitVec.ofNat 8 r.fields.length := rfl
@[simp] theorem acceptResponse_respBuf (r : Response) : (acceptResponse s r).respBuf = storeFields s.respBuf r.fields := rfl
@[simp] theorem acceptResponse_crcAcc (r : Response) : (acceptResponse s r).crcAcc = s.crcAcc := rfl
@[simp] theorem acceptResponse_crcData (r : Response) : (acceptResponse s r).crcData = s.crcData := rfl
@[simp] theorem acceptResponse_rspPhase (r : Response) : (acceptResponse s r).rspPhase = s.rspPhase := rfl
@[simp] theorem acceptResponse_frameBuf (r : Response) : (acceptResponse s r).frameBuf = [] := rfl
@[simp] theorem acceptResponse_rx (r : Response) : (acceptResponse s r).rx = s.rx := rfl
@[simp] theorem acceptResponse_tx (r : Response) : (acceptResponse s r).tx = s.tx := rfl
@[simp] theorem acceptResponse_agenda (r : Response) : (acceptResponse s r).agenda = s.agenda := rfl
@[simp] theorem acceptResponse_hostReads (r : Response) : (acceptResponse s r).hostReads = s.hostReads := rfl

@[simp] theorem hostRead_state (o : Offset) : (hostRead s o).state = s.state := rfl
@[simp] theorem hostRead_retried (o : Offset) : (hostRead s o).retried = s.retried := rfl
@[simp] theorem hostRead_rej (o : Offset) : (hostRead s o).rej = s.rej := rfl
@[simp] theorem hostRead_result (o : Offset) : (hostRead s o).result = s.result := rfl
@[simp] theorem hostRead_reqTc (o : Offset) : (hostRead s o).reqTc = s.reqTc := rfl
@[simp] theorem hostRead_reqIid (o : Offset) : (hostRead s o).reqIid = s.reqIid := rfl
@[simp] theorem hostRead_reqRc (o : Offset) : (hostRead s o).reqRc = s.reqRc := rfl
@[simp] theorem hostRead_reqFlags (o : Offset) : (hostRead s o).reqFlags = s.reqFlags := rfl
@[simp] theorem hostRead_xTc (o : Offset) : (hostRead s o).xTc = s.xTc := rfl
@[simp] theorem hostRead_xIid (o : Offset) : (hostRead s o).xIid = s.xIid := rfl
@[simp] theorem hostRead_xRc (o : Offset) : (hostRead s o).xRc = s.xRc := rfl
@[simp] theorem hostRead_xExp (o : Offset) : (hostRead s o).xExp = s.xExp := rfl
@[simp] theorem hostRead_seq (o : Offset) : (hostRead s o).seq = s.seq := rfl
@[simp] theorem hostRead_ctr (o : Offset) : (hostRead s o).ctr = s.ctr := rfl
@[simp] theorem hostRead_respSeq (o : Offset) : (hostRead s o).respSeq = s.respSeq := rfl
@[simp] theorem hostRead_respLen (o : Offset) : (hostRead s o).respLen = s.respLen := rfl
@[simp] theorem hostRead_respBuf (o : Offset) : (hostRead s o).respBuf = s.respBuf := rfl
@[simp] theorem hostRead_crcAcc (o : Offset) : (hostRead s o).crcAcc = s.crcAcc := rfl
@[simp] theorem hostRead_crcData (o : Offset) : (hostRead s o).crcData = s.crcData := rfl
@[simp] theorem hostRead_rspPhase (o : Offset) : (hostRead s o).rspPhase = s.rspPhase := rfl
@[simp] theorem hostRead_frameBuf (o : Offset) : (hostRead s o).frameBuf = s.frameBuf := rfl
@[simp] theorem hostRead_rx (o : Offset) : (hostRead s o).rx = s.rx := rfl
@[simp] theorem hostRead_tx (o : Offset) : (hostRead s o).tx = s.tx := rfl
@[simp] theorem hostRead_agenda (o : Offset) : (hostRead s o).agenda = s.agenda := rfl
@[simp] theorem hostRead_hostReads (o : Offset) : (hostRead s o).hostReads = s.hostReads ++ [readReg s o] := rfl

end Sys2Proof.Machine
end

