-- ==== Sys2Proof/Laws/Ops.lean ====
section
/-! SUPPORT. The operations over the state: what each can change, and the shape of RESP_BUF. -/

namespace Sys2Proof.Machine

/-- A finished exchange is not BUSY (R137). -/
@[simp] theorem busy_finish (s : State) (r : ResultCode) : busy (finish s r) = false := by
  by_cases h : r = .ok <;> simp [busy, isBusy, h]

/-- BUSY by STATE (R17). -/
theorem busy_eq_false_iff (s : State) : busy s = false ↔ s.state = .idle ∨ s.state = .done ∨ s.state = .failed := by
  cases h : s.state <;> simp [busy, isBusy, h]

/-- A register write touches the host's registers only (R43). -/
theorem writeReg_frame (s : State) (o : Offset) (v : Byte) : writeReg s o v =
    { s with
      reqTc := (writeReg s o v).reqTc, reqIid := (writeReg s o v).reqIid, reqRc := (writeReg s o v).reqRc,
      reqFlags := (writeReg s o v).reqFlags, seq := (writeReg s o v).seq, ctr := (writeReg s o v).ctr,
      crcData := (writeReg s o v).crcData } := by
  unfold writeReg; split_ifs <;> rfl

/-- While BUSY = 1 a register write leaves SEQ and CTR (R43). -/
theorem writeReg_busy {s : State} (h : busy s = true) (o : Offset) (v : Byte) :
    (writeReg s o v).seq = s.seq ∧ (writeReg s o v).ctr = s.ctr := by
  unfold writeReg; simp only [h, if_true]; split_ifs <;> simp

/-- The reserved bits of REQ_FLAGS stay 0 (R21). -/
theorem flagsMask_idem (v : Byte) : flagsMask (flagsMask v) = flagsMask v := by
  simp [flagsMask, BitVec.and_assoc]

theorem writeReg_flags {s : State} (h : flagsMask s.reqFlags = s.reqFlags) (o : Offset) (v : Byte) :
    flagsMask (writeReg s o v).reqFlags = (writeReg s o v).reqFlags := by
  unfold writeReg; split_ifs <;> first | exact h | exact flagsMask_idem v

/-- RESP_BUF keeps its size if the fields fit it (R28, R118). -/
theorem storeFields_length {buf fields : List Byte} (h : fields.length ≤ buf.length) :
    (storeFields buf fields).length = buf.length := by
  simp [storeFields]; omega

/-- With the spec's RX_CAP every delivery fits (D8). -/
@[simp] theorem deliver_config (s : State) (d : List Byte) : deliver config s d = .next { s with rx := s.rx ++ d } := rfl

end Sys2Proof.Machine
end

