-- ==== Sys2Proof/Laws/Engine.lean ====
section
/-! SUPPORT. The engine's turn: for each read and drain everything it can do, when it holds, and when it is stuck. -/

namespace Sys2Proof.Machine

/-- A drain step drops the head frame or ends with UNKNOWN_FRAME_KIND (R104). -/
theorem drainTurn_stepped {s t : State} (h : drainTurn s = .stepped t) :
    (classify config s.rx = .unknown ∧ t = finish s .unknownFrameKind) ∨
    ∃ n, classify config s.rx = .len n ∧ n ≤ s.rx.length ∧ t = rxDrop s n := by
  unfold drainTurn at h
  split at h
  · cases h; exact .inl ⟨‹_›, rfl⟩
  · cases h
  · rename_i n hn
    split_ifs at h with hl
    cases h
    exact .inr ⟨n, hn, Nat.not_lt.mp hl, rfl⟩

theorem drainTurn_hold (s : State) : drainTurn s = .hold ↔
    (∃ k, classify config s.rx = .need k) ∨ ∃ n, classify config s.rx = .len n ∧ s.rx.length < n := by
  unfold drainTurn
  cases classify config s.rx <;> simp

/-- An ack read takes ten bytes and does one of three things (R112, R115). -/
theorem ackTurn_stepped {k : State → State} {s t : State} (h : ackTurn k s = .stepped t) :
    10 ≤ s.rx.length ∧
    ((∃ e, decodeAck config (s.rx.take 10) s.seq = .error e ∧ t = finish (rxDrop s 10) (codeOf e)) ∨
     (decodeAck config (s.rx.take 10) s.seq = .ok false ∧ t = ackSuccess (rxDrop s 10)) ∨
     (decodeAck config (s.rx.take 10) s.seq = .ok true ∧ t = k (rxDrop s 10))) := by
  unfold ackTurn readExact at h
  simp only [config_lengths, rxDrop_seq] at h
  split_ifs at h with hl
  refine ⟨Nat.not_lt.mp hl, ?_⟩
  split at h <;> cases h
  · exact .inl ⟨_, ‹_›, rfl⟩
  · exact .inr (.inl ⟨‹_›, rfl⟩)
  · exact .inr (.inr ⟨‹_›, rfl⟩)

theorem ackTurn_hold (k : State → State) (s : State) : ackTurn k s = .hold ↔ s.rx.length < 10 := by
  unfold ackTurn readExact
  simp only [config_lengths]
  split_ifs with h
  · simp [h]
  · simp only [h, iff_false]; split <;> simp

/-- The header phase takes eight bytes (R117). -/
theorem headerTurn_stepped {s t : State} (h : headerTurn s = .stepped t) :
    8 ≤ s.rx.length ∧
    ((msgHeaderOk config (s.rx.take 8) = true ∧ t = { rxDrop s 8 with frameBuf := s.rx.take 8, rspPhase := .body }) ∨
     (msgHeaderOk config (s.rx.take 8) = false ∧ t = finish (rxDrop s 8) .frameCorrupt)) := by
  unfold headerTurn readExact at h
  simp only [config_lengths] at h
  split_ifs at h with hl hm
  · cases h; exact ⟨Nat.not_lt.mp hl, .inl ⟨hm, rfl⟩⟩
  · cases h; exact ⟨Nat.not_lt.mp hl, .inr ⟨by simpa using hm, rfl⟩⟩

theorem headerTurn_hold (s : State) : headerTurn s = .hold ↔ s.rx.length < 8 := by
  unfold headerTurn readExact
  simp only [config_lengths]
  split_ifs with h <;> simp [h]

/-- The body phase takes the payload and its CRC and decodes the frame (R118). -/
theorem bodyTurn_stepped {s t : State} (h : bodyTurn s = .stepped t) :
    4 ≤ s.frameBuf.length ∧ bodyLen s.frameBuf ≤ s.rx.length ∧
    ((∃ e, decodeMessage config (s.frameBuf ++ s.rx.take (bodyLen s.frameBuf)) s.ctr s.xTc s.xIid s.xRc = .error e ∧
        t = finish (rxDrop s (bodyLen s.frameBuf)) (codeOf e)) ∨
     (∃ r, decodeMessage config (s.frameBuf ++ s.rx.take (bodyLen s.frameBuf)) s.ctr s.xTc s.xIid s.xRc = .ok r ∧
        t = acceptResponse (rxDrop s (bodyLen s.frameBuf)) r)) := by
  unfold bodyTurn readExact at h
  split_ifs at h with hf hl
  refine ⟨Nat.not_lt.mp hf, Nat.not_lt.mp hl, ?_⟩
  simp only [rxDrop_frameBuf, rxDrop_ctr, rxDrop_xTc, rxDrop_xIid, rxDrop_xRc] at h
  split at h <;> cases h
  · exact .inl ⟨_, ‹_›, rfl⟩
  · exact .inr ⟨_, ‹_›, rfl⟩

theorem bodyTurn_hold (s : State) : bodyTurn s = .hold ↔ 4 ≤ s.frameBuf.length ∧ s.rx.length < bodyLen s.frameBuf := by
  unfold bodyTurn readExact
  split_ifs with h h2
  · simp [h]
  · simp [h2, Nat.not_lt.mp h]
  · simp only [h2, and_false, iff_false]; split <;> simp

/-- With the spec's MAX_ACK_ATTEMPTS the first retry-ACK sends the request again (R114). -/
theorem firstRetry_eq (s : State) : firstRetry s = resendRequest s (requestBytes s) := rfl

/-- Everything an engine step can be, by STATE (R128). -/
theorem engineTurn_stepped {s t : State} (h : engineTurn s = .stepped t) :
    (s.state = .draining ∧ s.rx = [] ∧ t = sendRequest s (requestBytes s)) ∨
    (s.state = .drainingTrailing ∧ s.rx = [] ∧ t = finish s .ok) ∨
    ((s.state = .draining ∨ s.state = .drainingTrailing) ∧ s.rx ≠ [] ∧ drainTurn s = .stepped t) ∨
    (s.state = .awaitingAck ∧ ackTurn firstRetry s = .stepped t) ∨
    (s.state = .retrySend ∧ ackTurn secondRetry s = .stepped t) ∨
    (s.state = .awaitingResponse ∧ s.rspPhase = .hdr ∧ headerTurn s = .stepped t) ∨
    (s.state = .awaitingResponse ∧ s.rspPhase = .body ∧ bodyTurn s = .stepped t) ∨
    (s.state = .sendingResponseAck ∧ t = sendAck s (encodeAck config s.respSeq)) := by
  unfold engineTurn readTurn at h
  cases hs : s.state <;> simp only [hs] at h
  · cases h
  · by_cases hr : s.rx = []
    · simp only [hr, if_true] at h; cases h; simp [hr]
    · simp only [hr, if_false] at h; simp [hr, h]
  · simp [h]
  · simp [h]
  · cases hp : s.rspPhase <;> simp only [hp] at h <;> simp [h]
  · cases h; simp
  · by_cases hr : s.rx = []
    · simp only [hr, if_true] at h; cases h; simp [hr]
    · simp only [hr, if_false] at h; simp [hr, h]
  · cases h
  · cases h

theorem drainTurn_not_stuck (s : State) (r : Fault) : drainTurn s ≠ .stuck r := by
  unfold drainTurn; split <;> try simp
  split_ifs <;> simp

theorem ackTurn_not_stuck (k : State → State) (s : State) (r : Fault) : ackTurn k s ≠ .stuck r := by
  unfold ackTurn readExact; split_ifs
  · simp
  · simp only []; split <;> simp

theorem headerTurn_not_stuck (s : State) (r : Fault) : headerTurn s ≠ .stuck r := by
  unfold headerTurn readExact; simp only []; split_ifs <;> simp

/-- The engine is stuck only in a body phase without a header (log 11). -/
theorem engineTurn_stuck {s : State} {r : Fault} (h : engineTurn s = .stuck r) :
    s.state = .awaitingResponse ∧ s.rspPhase = .body ∧ s.frameBuf.length < 4 := by
  have hd := drainTurn_not_stuck s r
  have ha (k : State → State) := ackTurn_not_stuck k s r
  unfold engineTurn readTurn at h
  cases hs : s.state <;> simp only [hs, ha, reduceCtorEq] at h
  · split_ifs at h; exact absurd h hd
  · cases hp : s.rspPhase <;> simp only [hp] at h
    · exact absurd h (headerTurn_not_stuck s r)
    · refine ⟨rfl, rfl, ?_⟩
      by_contra hn
      unfold bodyTurn readExact at h
      rw [if_neg hn] at h
      split_ifs at h
      simp only [] at h
      split at h <;> cases h
  · split_ifs at h; exact absurd h hd

/-- `classify` reads a prefix: bytes behind a whole frame do not change what it finds (R103). -/
theorem classify_append {f : List Byte} {n : Nat} (h : classify config f = .len n) (rest : List Byte) :
    classify config (f ++ rest) = .len n := by
  unfold classify at h ⊢
  simp only [config_lengths, config_kinds] at h ⊢
  by_cases h3 : f.length < 3
  · simp [h3] at h
  rw [if_neg h3] at h
  rw [if_neg (by simp; omega)]
  have a0 : at_ (f ++ rest) 0 = at_ f 0 := at_append_left _ (by omega)
  have a1 : at_ (f ++ rest) 1 = at_ f 1 := at_append_left _ (by omega)
  have a2 : at_ (f ++ rest) 2 = at_ f 2 := at_append_left _ (by omega)
  have a3 (h : 3 < f.length) : at_ (f ++ rest) 3 = at_ f 3 := at_append_left _ h
  have a4 (h : 4 < f.length) : at_ (f ++ rest) 4 = at_ f 4 := at_append_left _ h
  have hs : syncOk config (f ++ rest) = syncOk config f := by simp [syncOk, a0, a1]
  rw [hs, a2, List.length_append]
  split_ifs at h ⊢ <;>
    first
    | exact h
    | (exfalso; omega)
    | (cases h; done)
    | (rw [a3 (by omega)]; exact h)
    | (have b3 : at_ (f ++ rest) (2 + 1) = at_ f (2 + 1) := a3 (by omega)
       have b4 : at_ (f ++ rest) (2 + 2) = at_ f (2 + 2) := a4 (by omega)
       exfalso; simp_all)

end Sys2Proof.Machine
end

