-- ==== Sys2Proof/Laws/PerInstr.lean ====
section
/-! SUPPORT. Statements for every instruction, one lemma per constructor. -/

namespace Sys2Proof.Laws.EncodedLength

open Sys2Proof.Machine

/-- The length of an instruction's words (R64 to R69, R72, R73): one byte for a command, and for a well-formed frame the length its kind and
its length byte give, which is at most MAX_FRAME_LEN. -/
def Statement : Instr → Prop
  | .nop => (encode .nop).length = 1
  | .crcInit => (encode .crcInit).length = 1
  | .crcUpdate => (encode .crcUpdate).length = 1
  | .start => (encode .start).length = 1
  | .abort => (encode .abort).length = 1
  | .ack f => (encode (.ack f)).length = 10
  | .responseAck f => (encode (.responseAck f)).length = 10
  | .retryAck f => (encode (.retryAck f)).length = 10
  | .messageRequest f => (encode (.messageRequest f)).length = 18
  | .messageResponse f => Instr.wf (.messageResponse f) = true →
      (encode (.messageResponse f)).length = 10 + f.len.toNat ∧ (encode (.messageResponse f)).length ≤ config.maxFrameLen
  | .control body => Instr.wf (.control body) = true → (encode (.control body)).length = 25

theorem nop : Statement .nop := rfl
theorem crcInit : Statement .crcInit := rfl
theorem crcUpdate : Statement .crcUpdate := rfl
theorem start : Statement .start := rfl
theorem abort : Statement .abort := rfl
theorem ack (f : AckFrame) : Statement (.ack f) := rfl
theorem responseAck (f : SentAck) : Statement (.responseAck f) := rfl
theorem retryAck (f : AckFrame) : Statement (.retryAck f) := rfl
theorem messageRequest (f : RequestFrame) : Statement (.messageRequest f) := rfl

theorem messageResponse (f : MessageFrame) : Statement (.messageResponse f) := by
  intro h
  have hm : config.maxFrameLen = 265 := rfl
  have hl := f.len.isLt
  simp only [encode, encodeMessageFrame_eq, List.length_cons, List.length_append, le16_length, (wf_messageResponse f).mp h, hm]
  omega

theorem control (body : List Byte) : Statement (.control body) := by
  intro h
  simp [encode, encodeControlFrame_eq, (wf_control body).mp h]

end Sys2Proof.Laws.EncodedLength
end

