-- ==== Sys2Proof/Laws/Step.lean ====
section
/-! SUPPORT. The step by event: the next event, what each kind of event does, and a run one step at a time. -/

namespace Sys2Proof.Machine

/-- The state behind an event differs in its agenda only. -/
theorem nextEvent_state (s : State) : (nextEvent s).2 = { s with agenda := (nextEvent s).2.agenda } := by
  unfold nextEvent; split <;> rfl

/-- A run goes on from the next state. -/
theorem run_next {n : Nat} {s t : State} (h : step s = .next t) : Sys2Proof.core.run (n + 1) s = Sys2Proof.core.run n t := by
  have hc : Sys2Proof.core.step s = .next t := h
  simp only [Host.Core.run, hc]

/-- A host write runs a command or writes a register (R43, R44). -/
theorem step_of_hostWrite {s : State} {o : Offset} {v : Byte} (h : (nextEvent s).1 = .hostWrite o v) :
    step s = match fetchCommand o v with
      | some i => exec i (nextEvent s).2
      | none => .next (writeReg (nextEvent s).2 o v) := by
  have hn : nextEvent s = (.hostWrite o v, (nextEvent s).2) := by rw [← h]
  unfold step fetch act
  rw [hn]
  simp only []
  cases fetchCommand o v <;> simp

theorem step_of_hostRead {s : State} {o : Offset} (h : (nextEvent s).1 = .hostRead o) :
    step s = .next (hostRead (nextEvent s).2 o) := by
  have hn : nextEvent s = (.hostRead o, (nextEvent s).2) := by rw [← h]
  unfold step fetch act; rw [hn]

theorem step_of_deliver {s : State} {b : Byte} {bs : List Byte} (h : (nextEvent s).1 = .deliver b bs) :
    step s = .next { (nextEvent s).2 with rx := (nextEvent s).2.rx ++ b :: bs } := by
  have hn : nextEvent s = (.deliver b bs, (nextEvent s).2) := by rw [← h]
  unfold step fetch act; rw [hn]; rfl

theorem step_of_reset {s : State} (h : (nextEvent s).1 = .reset) : step s = .next (resetBlock (nextEvent s).2) := by
  have hn : nextEvent s = (.reset, (nextEvent s).2) := by rw [← h]
  unfold step fetch act; rw [hn]

/-- The commands a host write can carry (R73, R74). -/
theorem fetchCommand_cases (o : Offset) (v : Byte) :
    fetchCommand o v = none ∨
    (o = 0 ∧ ((v = 0x00 ∧ fetchCommand o v = some .nop) ∨ (v = 0x01 ∧ fetchCommand o v = some .crcInit) ∨
      (v = 0x02 ∧ fetchCommand o v = some .crcUpdate) ∨ (v = 0x10 ∧ fetchCommand o v = some .start) ∨
      (v = 0x11 ∧ fetchCommand o v = some .abort))) := by
  unfold fetchCommand
  split_ifs with ho
  · have h0 : o = 0 := ho
    unfold decodeCommand opNop opCrcInit opCrcUpdate opStart opAbort
    split_ifs with h1 h2 h3 h4 h5
    · exact .inr ⟨h0, .inl ⟨h1, rfl⟩⟩
    · exact .inr ⟨h0, .inr (.inl ⟨h2, rfl⟩)⟩
    · exact .inr ⟨h0, .inr (.inr (.inl ⟨h3, rfl⟩))⟩
    · exact .inr ⟨h0, .inr (.inr (.inr (.inl ⟨h4, rfl⟩)))⟩
    · exact .inr ⟨h0, .inr (.inr (.inr (.inr ⟨h5, rfl⟩)))⟩
    · exact .inl rfl
  · exact .inl rfl

/-- A frame fetched from RX stands at its head. -/
theorem fetchReceived_some {s s' : State} {i : Instr} (h : fetchReceived s = some (i, s')) :
    ∃ rest, decodeReceive config s.rx = .ok (i, rest) ∧ s' = { s with rx := rest } := by
  unfold fetchReceived at h
  cases hd : decode .receive s.rx with
  | error e => simp [hd] at h
  | ok p =>
    obtain ⟨j, rest⟩ := p
    simp only [hd, Option.some.injEq, Prod.mk.injEq] at h
    obtain ⟨rfl, rfl⟩ := h
    exact ⟨rest, hd, rfl⟩

end Sys2Proof.Machine
end

