-- ==== Sys2Proof/Tests/Slice0.lean ====
section
/-! SUPPORT. The model's own tests: well-formedness, decoding of words written out from the spec, single steps from the spec's vectors
(95_test_vectors.md), and for every statement with hypotheses a state that meets them. -/

namespace Sys2Proof.Tests

open Sys2Proof.Machine Sys2Proof.Safety Sys2Proof.Claims

/-! ### Helpers -/

/-- The state the spec's engine vectors start from (V-ENG): SEQ 0x05, CTR 0x0007, the request (0x02, 0x01, 0x03). -/
def eng (st : EngineState) (rx : List Byte) : State :=
  { State.reset with state := st, seq := 0x05, ctr := 0x0007, xTc := 0x02, xIid := 0x01, xRc := 0x03, xExp := true, rx := rx }

/-- One component of a next state. -/
def after {α : Type} (o : Machine.Outcome) (f : State → α) : Option α :=
  match o with
  | .next s => some (f s)
  | .fault _ => none
  | .refused _ => none

/-- STATE, RESULT, SEQ, CTR and the bytes left in RX. -/
def ending (s : State) : EngineState × ResultCode × Byte × Half × List Byte := (s.state, s.result, s.seq, s.ctr, s.rx)

/-- `STALE15` of the spec. -/
def stale15 : List Byte := [0xAA, 0x55, 0x80, 0x05, 0x00, 0x03, 0x6B, 0x82, 0x01, 0x02, 0x03, 0x04, 0x05, 0x04, 0x93]

/-- The response with eight payload bytes, V-MSG row 9. -/
def shortResponse : MessageFrame :=
  { len := 0x08, seq := 0x22, hcrc := 0xF479, payload := [0x80, 0x02, 0x00, 0x01, 0x01, 0x07, 0x00, 0x03], pcrc := 0xC54A }

/-- The ACK of sequence 0x05 and the retry-ACK of sequence 0x05 (V-ENC). -/
def ack05 : AckFrame := { seq := 0x05, hcrc := 0xBAF9, trailer0 := 0xFF, trailer1 := 0xFF }
def retry05 : AckFrame := { seq := 0x05, hcrc := 0x1E94, trailer0 := 0xFF, trailer1 := 0xFF }

/-- The ACK of sequence 0x06 (V-ENC). -/
def ack06 : AckFrame := { seq := 0x06, hcrc := 0x8A9A, trailer0 := 0xFF, trailer1 := 0xFF }

/-- The body of `CTRL`: bytes 00 to 13. -/
def ctrlBody : List Byte := (List.range 20).map (BitVec.ofNat 8)

/-! ### Well-formedness: an ill-formed term for each check -/

theorem test_wf_payload_length :
    (Instr.messageResponse { len := 0x03, seq := 0x00, hcrc := 0x0000, payload := [0x01, 0x02], pcrc := 0x0000 }).check
      = .error .payloadLength := by decide

theorem test_wf_body_length : (Instr.control (List.replicate 19 0x00)).check = .error .bodyLength := by decide

/-- The header CRC of sequence 0x05 is 0xBAF9 (V-CRC). -/
theorem test_wf_header_crc : (Instr.responseAck { seq := 0x05, hcrc := 0xBAF8 }).check = .error .headerCrc := by decide +kernel

/-- The CRCs of `REQ57` are 0xA0FC and 0x2ABB (V-CRC). -/
theorem test_wf_payload_crc :
    (Instr.messageRequest { seq := 0x05, hcrc := 0xA0FC, targetClass := 0x02, instanceId := 0x01, counter := 0x0007,
                            requestCode := 0x03, pcrc := 0x2ABA }).check = .error .payloadCrc := by decide +kernel

theorem test_wf_request_header_crc :
    (Instr.messageRequest { seq := 0x05, hcrc := 0xA0FD, targetClass := 0x02, instanceId := 0x01, counter := 0x0007,
                            requestCode := 0x03, pcrc := 0x2ABB }).check = .error .headerCrc := by decide +kernel

/-! ### Decoding: the words of every row -/

/-- The command words (R73), bit by bit from the table: 00000000, 00000001, 00000010, 00010000, 00010001. -/
theorem test_decode_commands :
    decode .command [0b00000000] = .ok (.nop, []) ∧ decode .command [0b00000001] = .ok (.crcInit, []) ∧
    decode .command [0b00000010] = .ok (.crcUpdate, []) ∧ decode .command [0b00010000] = .ok (.start, []) ∧
    decode .command [0b00010001] = .ok (.abort, []) := by decide

/-- Both ends of both reserved ranges (R74). -/
theorem test_decode_reserved :
    ∀ v ∈ [(0x03 : Byte), 0x0F, 0x12, 0xFF], decode .command [v] = .error .reservedOpcode := by decide

/-- ACK, its first bytes bit by bit (R64, V-ENC). -/
theorem test_decode_ack :
    decode .receive [0b10101010, 0b01010101, 0b01000000, 0b00000000, 0b00000000, 0x05, 0xF9, 0xBA, 0xFF, 0xFF]
      = .ok (.ack ack05, []) := by decide

/-- RETRY_ACK, with a byte behind it (R65, V-ENC). -/
theorem test_decode_retryAck :
    decode .receive [0b10101010, 0b01010101, 0b00000100, 0b00000000, 0b00000000, 0x05, 0x94, 0x1E, 0xFF, 0xFF, 0x77]
      = .ok (.retryAck retry05, [0x77]) := by decide

/-- RESPONSE_ACK: the words of ACK, sent (R64, R89). -/
theorem test_decode_responseAck :
    decode .send [0b10101010, 0b01010101, 0b01000000, 0b00000000, 0b00000000, 0x09, 0x75, 0x7B, 0xFF, 0xFF]
      = .ok (.responseAck { seq := 0x09, hcrc := 0x7B75 }, []) := by decide

/-- MESSAGE_REQUEST: `REQ57` (R66, R67). -/
theorem test_decode_messageRequest :
    decode .send [0b10101010, 0b01010101, 0b10000000, 0b00001000, 0b00000000, 0x05, 0xFC, 0xA0,
                  0b10000000, 0x02, 0b00000001, 0b00000000, 0x01, 0x07, 0x00, 0x03, 0xBB, 0x2A]
      = .ok (.messageRequest { seq := 0x05, hcrc := 0xA0FC, targetClass := 0x02, instanceId := 0x01, counter := 0x0007,
                               requestCode := 0x03, pcrc := 0x2ABB }, []) := by decide

/-- MESSAGE_RESPONSE: V-MSG row 9 (R66, R68). -/
theorem test_decode_messageResponse :
    decode .receive [0b10101010, 0b01010101, 0b10000000, 0x08, 0b00000000, 0x22, 0x79, 0xF4,
                     0x80, 0x02, 0x00, 0x01, 0x01, 0x07, 0x00, 0x03, 0x4A, 0xC5]
      = .ok (.messageResponse shortResponse, []) := by decide

/-- CONTROL: `CTRL` (R69). -/
theorem test_decode_control :
    decode .receive ([0b10101010, 0b01010101, 0b01001110, 0b00000000, 0b01010011] ++ ctrlBody) = .ok (.control ctrlBody, []) := by
  decide

/-- What is no frame, by name: no sync, an unknown kind (R70), a wrong marker, and too few bytes. -/
theorem test_decode_rejects :
    decode .receive [0x55, 0xAA, 0x40] = .error .notSync ∧ decode .receive [0xAA, 0x55, 0x13] = .error .unknownKind ∧
    decode .receive ([0xAA, 0x55, 0x4E, 0x01, 0x53] ++ ctrlBody) = .error .fixedField ∧
    decode .receive [0xAA, 0x55, 0x40, 0x00, 0x00, 0x05, 0xF9, 0xBA, 0xFF] = .error .short := by decide

/-- Table words in both byte orders of log 6, and a command. -/
theorem test_table_words :
    decodeTableWord 8 0x11 = some .abort ∧ decodeTableWord 80 0xFFFFBAF90500004055AA = some (.ack ack05) ∧
    decodeTableWord 80 0xAA5540000005F9BAFFFF = some (.ack ack05) ∧
    (decodeTableWord 40 0xAA55800800).map Instr.channel = some .send := by decide +kernel

/-! ### Single steps -/

/-- V-ENG row 1: START from IDLE with REQ_FLAGS = 01. -/
theorem test_start :
    after (exec .start { State.reset with reqFlags := 0x01 }) (fun s => (s.xExp, statusByte s, resultByte s.result))
      = some (true, 0x11, 0x00) := by decide

/-- V-ENG row 19: START while BUSY. -/
theorem test_start_busy : after (exec .start (eng .awaitingAck [])) statusByte = some 0x52 := by decide

/-- V-ENG row 20: ABORT leaves RX. -/
theorem test_abort :
    after (exec .abort (eng .awaitingAck [0x01])) ending = some (.failed, .aborted, 0x06, 0x0008, [0x01]) := by decide

/-- P6: the first byte. -/
theorem test_crcUpdate :
    after (exec .crcUpdate { State.reset with crcData := 0x31 }) (fun s => (s.crcAcc, s.crcData)) = some (0xC782, 0x31) := by
  decide +kernel

theorem test_crcInit : after (exec .crcInit { State.reset with crcAcc := 0x1234 }) State.crcAcc = some 0xFFFF := by decide

theorem test_nop : after (exec .nop (eng .draining [])) ending = some (.draining, .none, 0x05, 0x0007, []) := by decide

/-- V-ENG rows 5 and 8. -/
theorem test_ack :
    after (exec (.ack ack05) (eng .awaitingAck [])) statusByte = some 0x14 ∧
    after (exec (.ack ack06) (eng .awaitingAck [])) ending = some (.failed, .sequenceMismatch, 0x06, 0x0008, []) := by decide +kernel

/-- V-ENG rows 7 and 10. -/
theorem test_retryAck :
    after (exec (.retryAck retry05) (eng .awaitingAck [])) (fun s => (s.state, s.retried, s.tx.take 8))
      = some (.retrySend, true, [0xAA, 0x55, 0x80, 0x08, 0x00, 0x05, 0xFC, 0xA0]) ∧
    after (exec (.retryAck retry05) (eng .retrySend [])) ending = some (.failed, .commFailure, 0x06, 0x0008, []) := by decide +kernel

/-- V-MSG row 9 in the body phase (R118). -/
theorem test_messageResponse :
    after (exec (.messageResponse shortResponse) { eng .awaitingResponse [] with rspPhase := .body }) (fun s => (s.state, s.respSeq, s.respLen))
      = some (.sendingResponseAck, 0x22, 0x00) := by decide +kernel

/-- V-ENG row 9: ten bytes of `CTRL` are taken, fifteen stay. -/
theorem test_control_ack_read :
    after (exec (.control ctrlBody) (eng .awaitingAck [])) ending
      = some (.failed, .frameCorrupt, 0x06, 0x0008, ctrlBody.drop 5) := by decide +kernel

/-- V-ENG row 2: a drain drops `CTRL`. -/
theorem test_control_drain :
    after (exec (.control ctrlBody) (eng .draining [])) ending = some (.draining, .none, 0x05, 0x0007, []) := by decide +kernel

/-- V-ENG row 15. -/
theorem test_responseAck :
    after (exec (.responseAck { seq := 0x09, hcrc := 0x7B75 }) (eng .sendingResponseAck [])) (fun s => (s.state, s.tx))
      = some (.drainingTrailing, [0xAA, 0x55, 0x40, 0x00, 0x00, 0x09, 0x75, 0x7B, 0xFF, 0xFF]) := by decide +kernel

/-- V-ENG row 3: the step sends `REQ57`. -/
theorem test_messageRequest :
    after (step (eng .draining [])) (fun s => (s.state, s.tx)) = some (.awaitingAck,
      [0xAA, 0x55, 0x80, 0x08, 0x00, 0x05, 0xFC, 0xA0, 0x80, 0x02, 0x01, 0x00, 0x01, 0x07, 0x00, 0x03, 0xBB, 0x2A]) := by decide +kernel

/-- V-ENG row 4: a step on bytes that are no whole frame holds. -/
theorem test_step_hold :
    after (step (eng .awaitingAck [0xAA, 0x55, 0x40, 0x00])) ending
      = some (.awaitingAck, .none, 0x05, 0x0007, [0xAA, 0x55, 0x40, 0x00]) := by decide +kernel

/-- V-ENG row 17: a drain step on an unknown frame kind leaves RX. -/
theorem test_step_unknown :
    after (step (eng .drainingTrailing [0x00, 0x00, 0x00])) ending
      = some (.failed, .unknownFrameKind, 0x06, 0x0008, [0x00, 0x00, 0x00]) := by decide +kernel

/-- V-CLS, rows at the length of each decision. -/
theorem test_classify :
    classify config [0xAA, 0x55] = .need 3 ∧ classify config [0xAA, 0x55, 0x80] = .need 4 ∧
    classify config [0xAA, 0x55, 0x80, 0xFF] = .len 265 ∧ classify config [0xAA, 0x55, 0x4E, 0x00] = .need 5 ∧
    classify config [0xAA, 0x55, 0x4E, 0x00, 0x53] = .len 25 ∧ classify config [0xAA, 0x55, 0x04] = .unknown ∧
    classify config [0x00, 0x00, 0x00] = .unknown := by decide

/-- P11: with DRAIN_RETRY_AS_ACK a stale retry-ACK is a frame of ten bytes. -/
theorem test_classify_retry_as_ack : classify { config with drainRetryAsAck := true } [0xAA, 0x55, 0x04] = .len 10 := by decide

/-- R6: the derived parameters agree with those they are derived from. -/
theorem test_config_consistent : config.consistent = true := by decide

/-- R131's corner case, both wraps in one step. -/
theorem test_advance_wraps :
    (advance { State.reset with seq := 0xFF, ctr := 0xFFFF }).seq = 0x00 ∧
    (advance { State.reset with seq := 0xFF, ctr := 0xFFFF }).ctr = 0x0000 := by decide

/-- P12: the write of CTR_LO while BUSY = 1 is ignored, and opens no restore that a following START would break. -/
theorem test_ignored_write_opens_no_restore :
    (Restore.none.after (eng .awaitingAck []) (.hostWrite 0x0008 0x44)) = Restore.none ∧
    breach Restore.none { eng .done [] with agenda := [.hostWrite 0x0000 0x10] } = none := by decide

/-- R130: the load is three writes; a START behind the first of them breaks the duty, behind all three it does not. -/
theorem test_restore_is_three_writes :
    let m := Restore.none.after State.reset (.hostWrite 0x0007 0x05)
    breach m { State.reset with agenda := [.hostWrite 0x0000 0x10] } = some .startInsideRestore ∧
    (m.after State.reset (.hostWrite 0x0008 0x07)).after State.reset (.hostWrite 0x0009 0x00) = Restore.none := by decide

/-! ### Witnesses: states that meet the hypotheses of the statements -/

/-- Both clauses of StartBeginsOrSetsRej and AbortEndsExchangeInFlight; CountersAfterManyExchanges' second clause and HostWritesRegisters at BUSY = 0;
BrokenDutyRefusesTheRun, HostWritesRegisters and StatusShowsProgress at BUSY = 1. -/
theorem witness_busy :
    busy State.reset = false ∧ State.reset.agenda = [] ∧ busy (eng .draining []) = true ∧ busy (eng .drainingTrailing []) = true ∧
    busy (eng .done []) = false ∧ busy (eng .failed []) = false := by decide

/-- CommandWordsAndReservedOpcodes: both ends of both reserved ranges; StepRunsCommand and HostWritesRegisters' write of CMD. -/
theorem witness_opcodes :
    (∀ v ∈ [(0x03 : Byte), 0x0F, 0x12, 0xFF], v ∉ [(0x00 : Byte), 0x01, 0x02, 0x10, 0x11]) ∧ decodeCommand 0x10 = .ok .start := by decide

/-- ChecksumDetectsSingleBitErrors: the first and the last bit of a byte, and of a CRC; MessageHeaderCheckExactly. -/
theorem witness_spans :
    (0 < [(0x31 : Byte)].length ∧ 0 < 8 ∧ 7 < 8) ∧ 15 < 16 ∧ 8 ≤ (header66 0x08 0x22).length := by decide

/-- DecodeOfEncodeIsTheInstruction: a well-formed instruction of every row. -/
theorem witness_wf :
    ∀ i ∈ [Instr.nop, .crcInit, .crcUpdate, .start, .abort, .ack ack05, .retryAck retry05, .messageResponse shortResponse,
      .control ctrlBody, .responseAck { seq := 0x09, hcrc := 0x7B75 },
      .messageRequest { seq := 0x05, hcrc := 0xA0FC, targetClass := 0x02, instanceId := 0x01, counter := 0x0007,
                        requestCode := 0x03, pcrc := 0x2ABB }], i.wf = true := by decide +kernel

/-- A response of the longest payload is well-formed too. -/
theorem witness_wf_longest :
    Instr.wf (.messageResponse { len := 0xFF, seq := 0x00, hcrc := 0x0000, payload := List.replicate 255 0x00, pcrc := 0x0000 }) = true := by
  decide +kernel

/-- ReceivedRowsAreSelectedByMask: a sequence as long as the longest frame. -/
theorem witness_long_sequence : 265 ≤ (List.replicate 265 (0x00 : Byte)).length := by decide +kernel

/-- GoodAckLeadsOnOrMismatches, both clauses, in both states. -/
theorem witness_good_ack :
    awaitsAck (eng .awaitingAck []) ∧ awaitsAck (eng .retrySend []) ∧ ackValid 0x40 ack05 ∧ ack05.seq = (eng .awaitingAck []).seq ∧
    ackValid 0x40 ack06 ∧ ack06.seq ≠ (eng .awaitingAck []).seq :=
  ⟨.inl rfl, .inr rfl, by unfold ackValid; decide +kernel, rfl, by unfold ackValid; decide +kernel, by decide⟩

/-- AckReadRefusesOtherFrames, all four clauses: V-ACK rows 7 and 8, a retry-ACK with the CRC of an ACK, a Message, a Control frame. -/
theorem witness_refused_ack :
    awaitsAck (eng .awaitingAck []) ∧ ¬ ackValid 0x40 { ack05 with hcrc := 0xBAF8 } ∧ ¬ ackValid 0x40 { ack05 with trailer0 := 0xFE } ∧
    ¬ ackValid 0x04 { retry05 with hcrc := 0xBAF9 } ∧ Instr.wf (.messageResponse shortResponse) = true ∧
    Instr.wf (.control ctrlBody) = true :=
  ⟨.inl rfl, by unfold ackValid; decide +kernel, by unfold ackValid; decide +kernel, by unfold ackValid; decide +kernel, by decide, by decide⟩

/-- RetryAckResendsOnce, both clauses; DrainRefusesRetryAck. -/
theorem witness_retry :
    ackValid 0x04 retry05 ∧ (eng .awaitingAck []).state = .awaitingAck ∧ (eng .retrySend []).state = .retrySend ∧
    drains (eng .draining []) ∧ drains (eng .drainingTrailing []) :=
  ⟨by unfold ackValid; decide +kernel, rfl, rfl, .inl rfl, .inr rfl⟩

/-- AckRetryBound, WholeExchangeWithoutResponse; WholeExchangeReturnsFields with no field and with as many as RESP_BUF holds. -/
theorem witness_exchange :
    busy State.reset = false ∧ State.reset.rx = [] ∧ State.reset.reqFlags.getLsbD 0 = false ∧
    busy { State.reset with reqFlags := 0x01 } = false ∧ { State.reset with reqFlags := 0x01 }.reqFlags.getLsbD 0 = true ∧
    ([] : List Byte).length ≤ 247 ∧ (List.replicate 247 (0x00 : Byte)).length ≤ 247 :=
  ⟨rfl, rfl, rfl, rfl, by decide, by decide, by decide +kernel⟩

/-- ResponseHeaderIsTaken and HeaderReadRefusesOtherFrames. -/
theorem witness_header_phase :
    (eng .awaitingResponse []).state = .awaitingResponse ∧ (eng .awaitingResponse []).rspPhase = .hdr ∧
    shortResponse.hcrc = crc16 [0x80, shortResponse.len, 0x00, shortResponse.seq] ∧ Instr.wf (.ack ack05) = true ∧
    Instr.wf (.retryAck retry05) = true ∧ Instr.wf (.control ctrlBody) = true := by decide +kernel

/-- The state of the body phase. -/
def body : State := { eng .awaitingResponse [] with rspPhase := .body, frameBuf := encodeMessageHeader config shortResponse }

/-- A response with 247 fields, built by the codec. -/
def longResponse : MessageFrame :=
  let p := payload68 0x0007 0x02 0x01 0x03 (List.replicate 247 0x11)
  { len := 0xFF, seq := 0x33, hcrc := crc16 [0x80, 0xFF, 0x00, 0x33], payload := p, pcrc := crc16 p }

/-- ResponseIsAccepted with no field (V-MSG row 9) and with 247. -/
theorem witness_response :
    awaitsBody body ∧ Instr.wf (.messageResponse shortResponse) = true ∧
    shortResponse.hcrc = crc16 [0x80, shortResponse.len, 0x00, shortResponse.seq] ∧ shortResponse.payload = echo body ++ [] ∧
    shortResponse.pcrc = crc16 shortResponse.payload :=
  ⟨⟨rfl, rfl⟩, by decide, by decide +kernel, by decide, by decide +kernel⟩

theorem witness_longest_response :
    Instr.wf (.messageResponse longResponse) = true ∧ longResponse.payload = echo body ++ List.replicate 247 0x11 :=
  ⟨by decide +kernel, rfl⟩

/-- ResponseIsRefused: V-MSG row 10 (a short payload), the echo counter of V-MSG row 2, and a wrong payload CRC. -/
theorem witness_refused_response :
    let short : MessageFrame := { len := 0x07, seq := 0x11, hcrc := 0xDE78, payload := [0x80, 0x02, 0x00, 0x01, 0x01, 0x07, 0x00], pcrc := 0x0964 }
    let wrong : MessageFrame := { shortResponse with payload := [0x80, 0x02, 0x00, 0x01, 0x01, 0x06, 0x00, 0x03] }
    awaitsBody body ∧ Instr.wf (.messageResponse short) = true ∧ short.hcrc = crc16 [0x80, short.len, 0x00, short.seq] ∧
    short.payload.take 8 ≠ echo body ∧ wrong.payload.take 8 ≠ echo body ∧ shortResponse.payload.take 8 = echo body ∧
    (0xC54B : Half) ≠ crc16 shortResponse.payload :=
  ⟨⟨rfl, rfl⟩, by decide, by decide +kernel, by decide, by decide, by decide, by decide +kernel⟩

/-- DrainedEngineSendsRequest, ResponseAckIsSent, TrailingDrainCompletes and DeliveryAndEmptyPollRace's polls. -/
theorem witness_engine_states :
    (eng .draining []).state = .draining ∧ (eng .draining []).rx = [] ∧ (eng .sendingResponseAck []).state = .sendingResponseAck ∧
    (eng .drainingTrailing []).state = .drainingTrailing ∧ (eng .drainingTrailing []).rx = [] ∧ (eng .drainingTrailing []).agenda = [] := by
  decide

/-- StaleDrainThenRequest: the two stale frames of E6, and no frame at all. -/
theorem witness_stale_frames :
    (∀ f ∈ [[0xAA, 0x55, 0x40, 0x00, 0x00, 0x00, 0x5C, 0xEA, 0xFF, 0xFF], stale15], classify config f = .len f.length) ∧
    (eng .draining []).rx = ([] : List (List Byte)).flatten := by decide

/-- FramesOutsideTheirStates, all three clauses. -/
theorem witness_outside :
    (Instr.ack ack05).channel = .receive ∧ busy State.reset = false ∧ (eng .sendingResponseAck []).state = .sendingResponseAck ∧
    ¬ (State.reset.state = .draining ∧ State.reset.rx = []) ∧ State.reset.state ≠ .sendingResponseAck := by decide

/-- StepIsTheEngineTurn, and both clauses of StepRunsReceivedFrame. -/
theorem witness_received_frame :
    (nextEvent (eng .awaitingAck (encode (.ack ack05)))).1 = .engine ∧
    readsHead (nextEvent (eng .awaitingAck (encode (.ack ack05)))).2 = true ∧ Instr.wf (.ack ack05) = true ∧
    (eng .awaitingAck (encode (.ack ack05))).rx = encode (.ack ack05) ++ [] ∧ (nextEvent body).1 = .engine ∧
    body.frameBuf ++ (shortResponse.payload ++ le16 shortResponse.pcrc) = encode (.messageResponse shortResponse) ++ [] ∧
    body.frameBuf.length = 8 := by decide

theorem witness_body_state : awaitsBody (nextEvent body).2 := ⟨rfl, rfl⟩

/-- EngineFollowsTransitionTable: an engine step; AbortAndCompletionRace: that step ends the exchange. -/
theorem witness_engine_step :
    engineTurn (eng .drainingTrailing []) = .stepped (finish (eng .drainingTrailing []) .ok) ∧
    busy (finish (eng .drainingTrailing []) .ok) = false := ⟨rfl, rfl⟩

/-- CountersAfterManyExchanges, a run that answers a next state: an ABORT in flight and an engine turn, one exchange that ends, no counter write to
come. -/
theorem witness_run :
    after (Sys2Proof.core.run 2 { eng .awaitingAck [] with agenda := [.hostWrite 0x0000 0x11, .engine] }) State.seq = some 0x06 ∧
    ends 2 { eng .awaitingAck [] with agenda := [.hostWrite 0x0000 0x11, .engine] } = 1 := by decide +kernel

theorem witness_leaves_counters : leavesCounters [.hostWrite 0x0000 0x11, .engine] := by
  intro e he
  simp only [List.mem_cons, List.not_mem_nil, or_false] at he
  rcases he with rfl | rfl
  · exact ⟨by simp, fun o v h => by cases h; decide⟩
  · exact ⟨by simp, fun o v h => by cases h⟩

/-- DeliveryAndEmptyPollRace: a delivery of each kind R103 knows, an ACK's first byte and the rest among them, in both drains. -/
theorem witness_race :
    classify103 false [0xAA, 0x55] = .need 3 ∧ classify103 false [0xAA, 0x55, 0x04] = .unknown ∧
    classify103 false [0xAA, 0x55, 0x40] = .len 10 ∧ classify103 false [0xAA, 0x55, 0x80, 0xFF] = .len 265 ∧
    0xAA :: (ack64 0x40 0x05).tail = ack64 0x40 0x05 := by decide +kernel

theorem witness_drains : drains (eng .draining []) ∧ drains (eng .drainingTrailing []) := ⟨.inl rfl, .inr rfl⟩

/-- BrokenDutyRefusesTheRun: each duty broken, the ends of the result registers, and a restore of one, two and three writes. -/
theorem witness_duties :
    breach Restore.none { eng .draining [] with agenda := [.hostWrite 0x0000 0x10] } = some .startWhileBusy ∧
    breach { Restore.none with ctrHi := true } { eng .done [] with agenda := [.hostWrite 0x0000 0x10] } = some .startInsideRestore ∧
    breach Restore.none { eng .draining [] with agenda := [.hostRead 0x0002] } = some .resultWhileBusy ∧
    breach Restore.none { eng .draining [] with agenda := [.hostRead 0x01F6] } = some .resultWhileBusy ∧
    breach Restore.none { eng .draining [] with agenda := [.hostRead 0x000C] } = none ∧
    breach Restore.none { eng .draining [] with agenda := [.hostRead 0x01F7] } = none ∧
    (([(0x0009, 0x00), (0x0007, 0x05), (0x0008, 0x07)] : List (Offset × Byte)).map Prod.fst).Nodup ∧
    dutifulRun 2 Restore.none { eng .done [] with agenda := restoreThenStart [(0x0009, 0x00)] } = .dutyBroken .startInsideRestore := by
  decide +kernel

/-- QuiescentEngineTakesNothing: a delivery and a host write in a state that is not BUSY. -/
theorem witness_quiescent :
    busy (eng .failed [0xAA]) = false ∧
    (nextEvent { eng .done [] with agenda := [.hostWrite 0x0003 0x02] }).1 = .hostWrite 0x0003 0x02 ∧
    busy { eng .done [] with agenda := [.deliver 0xAA [0x55]] } = false ∧
    after (step { eng .done [] with agenda := [.hostWrite 0x0003 0x02] }) State.reqTc = some 0x02 := by decide

/-- StepKeepsInvariant and StepNeverStops: the invariant and a step at a state with an event to come, START. -/
theorem witness_invariant : Inv { State.reset with agenda := [.hostWrite 0x0000 0x10] } := by
  have hs : State.reset.state = .idle := rfl
  have hp : State.reset.rspPhase = .hdr := rfl
  refine ⟨List.length_replicate, Nat.zero_le _, fun h => absurd rfl h, rfl, ?_, fun _ => rfl, ?_, fun _ _ => rfl, ?_, ?_, ?_,
    fun _ => rfl, fun _ => rfl, ?_, fun _ => ⟨rfl, rfl⟩, .nil⟩ <;> simp [hs, hp, awaitsBody]

/-- CountersChangeOnlyAtTheEnd, TransmitsWholeFramesAtMostThree, ReceiveStreamIsFifo and StepKeepsInvariant: steps that answer a next state, from
BUSY to not, from BUSY to BUSY, and while not BUSY. -/
theorem witness_steps :
    after (step (eng .drainingTrailing [])) busy = some false ∧ after (step (eng .draining [])) busy = some true ∧
    after (step { State.reset with agenda := [.hostWrite 0x0000 0x10] }) busy = some true ∧
    after (step { State.reset with agenda := [.deliver 0xAA [0x55]] }) State.rx = some [0xAA, 0x55] ∧
    busy (eng .drainingTrailing []) = true ∧ busy State.reset = false := by decide +kernel

theorem witness_step_events :
    (nextEvent (eng .draining [])).1 ≠ .reset ∧ (nextEvent { State.reset with agenda := [.hostWrite 0x0000 0x10] }).1 ≠ .reset ∧
    (0x0000 : Offset) ∉ [(0x0007 : Offset), 0x0008, 0x0009] := by decide

/-- HostWritesRegisters: offsets that are not writable, at the ends of the gaps of R35. -/
theorem witness_unwritable :
    ¬ writable 0x0001 ∧ ¬ writable 0x0002 ∧ ¬ writable 0x000A ∧ ¬ writable 0x000B ∧ ¬ writable 0x000D ∧ ¬ writable 0x000F ∧
    ¬ writable 0x0100 ∧ ¬ writable 0xFFFF := by
  unfold writable; decide

/-- HostReadsRegisters: the ends of RESP_BUF, and unmapped offsets at the ends of the gaps of R35. -/
theorem witness_reads :
    0 < 247 ∧ 246 < 247 ∧ ¬ mapped 0x000F ∧ ¬ mapped 0x00FF ∧ ¬ mapped 0x01F7 ∧ ¬ mapped 0xFFFF := by
  unfold mapped; decide

/-- HoldLastsUntilAbort: an ack read with four bytes (V-ENG row 4), with no event to come and with a START that is turned away. -/
theorem witness_hold :
    engineTurn (eng .awaitingAck [0xAA, 0x55, 0x40, 0x00]) = .hold ∧ (eng .awaitingAck [0xAA, 0x55, 0x40, 0x00]).agenda = [] ∧
    engineTurn { eng .awaitingAck [0xAA] with agenda := [.hostWrite 0x0000 0x10] } = .hold ∧
    after (step { eng .awaitingAck [0xAA] with agenda := [.hostWrite 0x0000 0x10] }) State.rej = some true := by
  decide

end Sys2Proof.Tests
end

section
/-! PROOFS. A received frame's decoder and encoder agree: the frame decoded stands, byte for byte, before the rest. -/

namespace Sys2Proof.Machine

@[simp] theorem lo_rd16 (b : List Byte) (i : Nat) : lo (rd16 b i) = at_ b i := lo_pair _ _

@[simp] theorem hi_rd16 (b : List Byte) (i : Nat) : hi (rd16 b i) = at_ b (i + 1) := hi_pair _ _

/-- A byte range and what stands behind it. -/
theorem span_append_drop (b : List Byte) (i n : Nat) : span b i n ++ b.drop (i + n) = b.drop i := by
  rw [span, ← List.drop_drop, List.take_append_drop]

/-- A 16-bit field and what stands behind it. -/
theorem le16_rd16_append_drop {b : List Byte} {n : Nat} (h : n + 2 ≤ b.length) : le16 (rd16 b n) ++ b.drop (n + 2) = b.drop n := by
  rw [drop_eq_at_cons (n := n) (by omega), drop_eq_at_cons (n := n + 1) (by omega), rd16, le16_pair]
  rfl

/-- The row ACK or RETRY_ACK: the frame before the rest is the ten bytes decoded (R64, R65). -/
theorem decodeAckRow_ok {mk : AckFrame → Instr} {b rest : List Byte} {i : Instr} (h0 : at_ b 0 = 0xAA) (h1 : at_ b 1 = 0x55)
    (h : decodeAckRow config mk b = .ok (i, rest)) : ∃ f, i = mk f ∧ encodeAckFrame config (at_ b 2) f ++ rest = b := by
  unfold decodeAckRow at h
  simp only [config_lengths] at h
  split_ifs at h with hl hz
  obtain ⟨h3, h4⟩ : at_ b 3 = 0 ∧ at_ b 4 = 0 := by simpa using hz
  obtain ⟨rfl, rfl⟩ : mk _ = i ∧ b.drop 10 = rest := by simpa using h
  refine ⟨_, rfl, ?_⟩
  have drops (n : Nat) (hn : n < 10) : b.drop n = at_ b n :: b.drop (n + 1) := drop_eq_at_cons (by omega)
  rw [encodeAckFrame_eq]
  conv_rhs => rw [← List.drop_zero (l := b)]
  simp [drops, h0, h1, h3, h4]

/-- The row MESSAGE_RESPONSE: the frame before the rest is the header, the payload of its length and the payload CRC (R66). -/
theorem decodeMessageRow_ok {b rest : List Byte} {i : Instr} (h0 : at_ b 0 = 0xAA) (h1 : at_ b 1 = 0x55) (h2 : at_ b 2 = 0x80)
    (h : decodeMessageRow config b = .ok (i, rest)) :
    ∃ f, i = .messageResponse f ∧ f.payload.length = f.len.toNat ∧ encodeMessageFrame config f ++ rest = b := by
  unfold decodeMessageRow at h
  simp only [config_lengths] at h
  split_ifs at h with hl hz hn
  obtain ⟨rfl, rfl⟩ := by simpa using h
  have h4 : at_ b 4 = 0 := by simpa using hz
  have drops (n : Nat) (hn : n < 8) : b.drop n = at_ b n :: b.drop (n + 1) := drop_eq_at_cons (by omega)
  refine ⟨_, rfl, by simp [span]; omega, ?_⟩
  have tail : span b 8 (at_ b 3).toNat ++ le16 (rd16 b (8 + (at_ b 3).toNat)) ++ b.drop (10 + (at_ b 3).toNat) = b.drop 8 := by
    rw [show 10 + (at_ b 3).toNat = 8 + (at_ b 3).toNat + 2 by omega, List.append_assoc, le16_rd16_append_drop (by omega),
      span_append_drop]
  rw [encodeMessageFrame_eq]
  conv_rhs => rw [← List.drop_zero (l := b)]
  simp only [drops, h0, h1, h2, h4, lo_rd16, hi_rd16, Nat.reduceAdd, Nat.reduceLT, List.cons_append, tail]

/-- The row CONTROL: the frame before the rest is the sync, the marker and the twenty bytes behind it (R69). -/
theorem decodeControlRow_ok {b rest : List Byte} {i : Instr} (h0 : at_ b 0 = 0xAA) (h1 : at_ b 1 = 0x55) (h2 : at_ b 2 = 0x4E)
    (h : decodeControlRow config b = .ok (i, rest)) :
    ∃ body, i = .control body ∧ body.length = 20 ∧ encodeControlFrame config body ++ rest = b := by
  unfold decodeControlRow at h
  simp only [config_lengths, config_kinds] at h
  split_ifs at h with hl hz
  obtain ⟨rfl, rfl⟩ := by simpa using h
  obtain ⟨h3, h4⟩ : at_ b 3 = 0x00 ∧ at_ b 4 = 0x53 := by simpa using hz
  have drops (n : Nat) (hn : n < 5) : b.drop n = at_ b n :: b.drop (n + 1) := drop_eq_at_cons (by omega)
  refine ⟨_, rfl, by simp [span]; omega, ?_⟩
  rw [encodeControlFrame_eq]
  conv_rhs => rw [← List.drop_zero (l := b)]
  have tail : span b 5 20 ++ b.drop 25 = b.drop 5 := span_append_drop b 5 20
  simpa [drops, h0, h1, h2, h3, h4, span] using tail

/-- What the receive decoder reads is a row of the receive channel, and its bytes stand before the rest. -/
theorem encode_of_decodeReceive {b rest : List Byte} {i : Instr} (h : decodeReceive config b = .ok (i, rest)) :
    i.channel = .receive ∧ encode i ++ rest = b := by
  obtain ⟨h0, h1, ⟨h2, h⟩ | ⟨h2, h⟩ | ⟨h2, h⟩ | ⟨h2, h⟩⟩ := decodeReceive_ok h
  · obtain ⟨f, rfl, hb⟩ := decodeAckRow_ok h0 h1 h
    exact ⟨rfl, by rw [← hb, h2]; rfl⟩
  · obtain ⟨f, rfl, hb⟩ := decodeAckRow_ok h0 h1 h
    exact ⟨rfl, by rw [← hb, h2]; rfl⟩
  · obtain ⟨f, rfl, -, hb⟩ := decodeMessageRow_ok h0 h1 h2 h
    exact ⟨rfl, hb⟩
  · obtain ⟨body, rfl, -, hb⟩ := decodeControlRow_ok h0 h1 h2 h
    exact ⟨rfl, hb⟩

end Sys2Proof.Machine
end

section
/-! PROOFS. At the engine's turn the machine that decodes frames and runs their rows is the engine on the raw streams. -/

namespace Sys2Proof.Machine

open Sys2Proof.Safety

/-- Bytes taken from the head of RX and put back are RX again. -/
theorem pushFront_rest {s : State} {b rest : List Byte} (h : b ++ rest = s.rx) : pushFront b { s with rx := rest } = s := by
  rw [pushFront, h]

/-- Outside the body phase a received row is the engine's turn with the row's words at the head of RX. -/
theorem exec_received {s : State} {i : Instr} (hc : i.channel = .receive) (hb : ¬ awaitsBody s) :
    exec i s = receive (encode i) s := by
  cases i with
  | messageResponse f => exact if_neg hb
  | ack f => rfl
  | retryAck f => rfl
  | control body => rfl
  | _ => cases hc

/-- Where the engine reads RX from the head of a frame, the row fetched there is the engine's turn on the raw bytes. -/
theorem exec_of_fetchReceived {s s' : State} {i : Instr} (h : fetchReceived s = some (i, s'))
    (hb : ¬ awaitsBody s) : exec i s' = (readTurn s).outcome s := by
  obtain ⟨rest, hd, rfl⟩ := fetchReceived_some h
  obtain ⟨hc, hw⟩ := encode_of_decodeReceive hd
  rw [exec_received (s := { s with rx := rest }) hc hb, receive, pushFront_rest hw]

/-- In the body phase the row fetched has its eight header bytes in FRAME_BUF and the rest at the head of RX (R102). -/
theorem fetchBody_some {s s' : State} {i : Instr} (h : fetchBody s = some (i, s')) :
    ∃ f rest, i = .messageResponse f ∧ s' = { s with rx := rest } ∧ s.frameBuf = encodeMessageHeader config f ∧
      s.rx = f.payload ++ le16 f.pcrc ++ rest := by
  unfold fetchBody at h
  split_ifs at h with hl
  split at h
  · rename_i f rest hd
    obtain ⟨rfl, rfl⟩ : _ = i ∧ _ = s' := by simpa using h
    obtain ⟨-, hw⟩ := encode_of_decodeReceive hd
    have hsplit : encodeMessageHeader config f ++ (f.payload ++ le16 f.pcrc ++ rest) = s.frameBuf ++ s.rx := by
      rw [← hw]; simp [encode, encodeMessageFrame]
    obtain ⟨hh, ht⟩ := List.append_inj hsplit (by rw [hl]; rfl)
    exact ⟨f, rest, rfl, rfl, hh.symm, ht.symm⟩
  · cases h

/-- In the body phase the row fetched is the engine's turn on FRAME_BUF and the raw bytes. -/
theorem exec_of_fetchBody {s s' : State} {i : Instr} (h : fetchBody s = some (i, s'))
    (hb : awaitsBody s) : exec i s' = (readTurn s).outcome s := by
  obtain ⟨f, rest, rfl, rfl, hf, hr⟩ := fetchBody_some h
  have hs : pushFront (f.payload ++ le16 f.pcrc) { s with rx := rest, frameBuf := encodeMessageHeader config f } = s := by
    rw [pushFront, ← hr, ← hf]
  calc exec (.messageResponse f) { s with rx := rest }
      = receive (f.payload ++ le16 f.pcrc) { s with rx := rest, frameBuf := encodeMessageHeader config f } := if_pos hb
    _ = (readTurn s).outcome s := by rw [receive, hs]

/-- With RX empty there is no frame to fetch. -/
theorem fetchReceived_nil {s : State} (h : s.rx = []) : fetchReceived s = none := by
  rw [fetchReceived, h]; rfl

/-- The row the engine's turn runs is the engine's turn on the raw streams (log 3, log 4). -/
theorem exec_of_fetchFrame {s s' : State} {i : Instr} (h : fetchFrame s = some (i, s')) : exec i s' = (engineTurn s).outcome s := by
  unfold fetchFrame at h
  unfold engineTurn
  cases hs : s.state <;> simp only [hs, reduceCtorEq] at h ⊢
  case draining =>
    by_cases hr : s.rx = []
    · obtain ⟨rfl, rfl⟩ : _ = i ∧ _ = s' := by simpa [hr] using h
      simp only [if_pos hr]
      exact congrArg _ (if_pos ⟨hs, hr⟩)
    · rw [if_neg hr] at h ⊢
      exact exec_of_fetchReceived h (by simp [awaitsBody, hs])
  case awaitingAck => exact exec_of_fetchReceived h (by simp [awaitsBody, hs])
  case retrySend => exact exec_of_fetchReceived h (by simp [awaitsBody, hs])
  case awaitingResponse =>
    cases hp : s.rspPhase <;> simp only [hp] at h
    · exact exec_of_fetchReceived h (by simp [awaitsBody, hp])
    · exact exec_of_fetchBody h ⟨hs, hp⟩
  case sendingResponseAck =>
    obtain ⟨rfl, rfl⟩ : _ = i ∧ _ = s' := by simpa using h
    exact congrArg _ (if_pos hs)
  case drainingTrailing =>
    by_cases hr : s.rx = []
    · rw [fetchReceived_nil hr] at h; cases h
    · rw [if_neg hr]
      exact exec_of_fetchReceived h (by simp [awaitsBody, hs])

/-- At the engine's turn the step is the engine on the raw streams, whether a row is decoded or not (R108). -/
theorem step_of_engine {s : State} (h : (nextEvent s).1 = .engine) :
    step s = (engineTurn (nextEvent s).2).outcome (nextEvent s).2 := by
  have hn : nextEvent s = (.engine, (nextEvent s).2) := by rw [← h]
  unfold step fetch act
  rw [hn]
  cases hf : fetchFrame (nextEvent s).2 with
  | none => simp [hf]
  | some p => simpa [hf] using exec_of_fetchFrame hf

end Sys2Proof.Machine
end

section
/-! PROOFS. A host write of CMD: the command it carries, and the step that runs it (R44). -/

namespace Sys2Proof.Machine

/-- A written opcode is the command the write carries. -/
theorem fetchCommand_of_decode {v : Byte} {i : Instr} (h : decodeCommand v = .ok i) : fetchCommand 0x0000 v = some i := by
  have hc : fetchCommand 0x0000 v = (decodeCommand v).toOption := if_pos rfl
  rw [hc, h]; rfl

/-- A host write carries a command row or none. -/
theorem fetchCommand_channel {o : Offset} {v : Byte} {i : Instr} (h : fetchCommand o v = some i) : i.channel = .command := by
  obtain h' | ⟨-, ⟨-, h'⟩ | ⟨-, h'⟩ | ⟨-, h'⟩ | ⟨-, h'⟩ | ⟨-, h'⟩⟩ := fetchCommand_cases o v <;> rw [h'] at h <;> cases h <;> rfl

/-- A command answers a next state in every state. -/
theorem exec_command_next {i : Instr} (h : i.channel = .command) (s : State) : ∃ t, exec i s = .next t := by
  cases i with
  | nop | crcInit | crcUpdate | start | abort => exact ⟨_, rfl⟩
  | _ => cases h

variable {s : State} {o : Offset} {v : Byte}

/-- A host write that carries a command runs it. -/
theorem step_of_command {i : Instr} (h : (nextEvent s).1 = .hostWrite o v) (hc : fetchCommand o v = some i) :
    step s = exec i (nextEvent s).2 := by
  rw [step_of_hostWrite h, hc]

/-- Any other host write is a register write. -/
theorem step_of_registerWrite (h : (nextEvent s).1 = .hostWrite o v) (hc : fetchCommand o v = none) :
    step s = .next (writeReg (nextEvent s).2 o v) := by
  rw [step_of_hostWrite h, hc]

end Sys2Proof.Machine
end

section
/-! PROOFS. The invariant of reached states: each operation over the state keeps it, so each engine turn, each command and each event does
(O43, O44). -/

namespace Sys2Proof.Safety

open Sys2Proof.Machine

/-- No error of a decode is the result NONE (R136). -/
theorem codeOf_ne_none (e : FrameError) : codeOf e ≠ .none := by cases e <;> simp [codeOf]

/-- The fields of a decoded response fit RESP_BUF: a payload of at most 255 bytes behind its echo of eight (R96). -/
theorem decodeMessage_fields_length {b : List Byte} {ctr : Half} {tc iid rc : Byte} {r : Response}
    (h : decodeMessage config b ctr tc iid rc = .ok r) : r.fields.length ≤ 247 := by
  have hlen := (at_ b 3).isLt
  unfold decodeMessage at h
  simp only [config_lengths] at h
  split_ifs at h
  cases h
  simp only [span, List.length_drop, List.length_take]
  omega

variable {s t : State}

/-- The invariant does not read RX. -/
theorem Inv.rxDrop (h : Inv s) (n : Nat) : Inv (rxDrop s n) := { h with }

/-- Before a response has been decoded RESP_LEN is 0 (R27). -/
theorem Inv.respLen_eq_zero (h : Inv s) (hs : s.state = .draining ∨ s.state = .awaitingAck ∨ s.state = .retrySend ∨ s.state = .awaitingResponse) :
    s.respLen = 0 := by
  by_contra hz
  have := h.lenZero hz
  grind

/-- Before a response header is taken RSP_PHASE is HDR (R113). -/
theorem Inv.not_body (h : Inv s) (hs : s.state = .draining ∨ s.state = .awaitingAck ∨ s.state = .retrySend) : s.rspPhase ≠ .body := by
  intro hp
  have := h.phaseHdr hp
  grind

/-- While an exchange is in flight RESULT is NONE (R25). -/
theorem Inv.result_eq_none (h : Inv s) (hb : busy s = true) : s.result = .none :=
  h.resultNone (fun hs => by simp [busy, isBusy, hs] at hb) (fun hs => by simp [busy, isBusy, hs] at hb)

/-- The end of every exchange keeps the invariant, from any STATE (R137). -/
theorem Inv.finish (h : Inv s) {r : ResultCode} (hr : r ≠ .none) : Inv (finish s r) := by
  by_cases hok : r = .ok
  all_goals exact
    { bufLength := h.bufLength
      lenBound := by simp [hok, h.lenBound]
      lenZero := by simp [hok]
      flagsReserved := h.flagsReserved
      bodyHeader := by simp [awaitsBody]
      noHeader := fun _ => rfl
      phaseHdr := by simp
      resultNone := by simp [hok]
      resultDone := by simp [hok]
      resultFailed := by simp [hok, hr]
      retriedSet := by simp [hok]
      retriedClear := by simp [hok]
      rejIdle := by simp [hok]
      responseExpected := by simp [hok]
      noResponse := fun hx => ⟨by simp [h.noResponse hx], (h.noResponse hx).2⟩
      txFrames := h.txFrames }

/-- An accepted START meets the invariant, whatever exchange was before it (R109). -/
theorem Inv.beginExchange (h : Inv s) : Inv (beginExchange s) where
  bufLength := h.bufLength
  lenBound := Nat.zero_le _
  lenZero := by simp
  flagsReserved := h.flagsReserved
  bodyHeader := by simp [awaitsBody]
  noHeader := fun _ => rfl
  phaseHdr := by simp
  resultNone := by simp
  resultDone := by simp
  resultFailed := by simp
  retriedSet := by simp
  retriedClear := by simp
  rejIdle := by simp
  responseExpected := by simp
  noResponse := by simp
  txFrames := h.txFrames

/-- A state of an exchange in flight with no header in FRAME_BUF: what STATE, RETRIED and RSP_PHASE must agree with. -/
theorem Inv.enter (h : Inv s) (hres : s.result = .none) {st : EngineState} {rt : Bool} {ph : RspPhase} {fb : List Byte}
    (hbusy : isBusy st = true) (hfb : fb = [])
    (hlen : s.respLen ≠ 0 → st = .sendingResponseAck ∨ st = .drainingTrailing)
    (hph : ph = .body → st = .sendingResponseAck ∨ st = .drainingTrailing)
    (hset : st = .retrySend → rt = true) (hclear : st = .draining ∨ st = .awaitingAck → rt = false)
    (hx : st = .awaitingResponse ∨ st = .sendingResponseAck → s.xExp = true) :
    Inv { s with state := st, retried := rt, rspPhase := ph, frameBuf := fb } :=
  have hend : st ≠ .idle ∧ st ≠ .done ∧ st ≠ .failed := by
    refine ⟨?_, ?_, ?_⟩ <;> rintro rfl <;> cases hbusy
  { h with
    lenZero := fun hz => (hlen hz).imp_right .inl
    bodyHeader := fun ⟨hs, hp⟩ => by cases hph hp <;> simp_all
    noHeader := fun _ => hfb
    phaseHdr := fun hp => .inr (hph hp)
    resultNone := fun _ _ => hres
    resultDone := fun hs => absurd hs hend.2.1
    resultFailed := fun hs => absurd hs hend.2.2
    retriedSet := hset
    retriedClear := fun hs => hclear (hs.resolve_left hend.1)
    rejIdle := fun hs => absurd hs hend.1
    responseExpected := hx }

/-- A whole frame sent leaves TX whole frames (R50). -/
theorem Inv.txSend (h : Inv s) {f : List Byte} (hf : SentFrame f) : Inv (txSend s f) :=
  { h with txFrames := .append _ _ h.txFrames hf }

theorem Inv.sendRequest (h : Inv s) (hs : s.state = .draining) {f : List Byte} (hf : SentFrame f) : Inv (sendRequest s f) :=
  (h.txSend hf).enter (h.result_eq_none (by simp [busy, isBusy, hs])) (hbusy := rfl)
    (hfb := h.noHeader (by simp [awaitsBody, hs]))
    (hlen := fun hz => absurd (h.respLen_eq_zero (.inl hs)) hz)
    (hph := fun hp => absurd hp (h.not_body (.inl hs)))
    (hset := by simp) (hclear := fun _ => h.retriedClear (.inr (.inl hs))) (hx := by simp)

theorem Inv.resendRequest (h : Inv s) (hs : s.state = .awaitingAck) {f : List Byte} (hf : SentFrame f) : Inv (resendRequest s f) :=
  (h.txSend hf).enter (h.result_eq_none (by simp [busy, isBusy, hs])) (hbusy := rfl)
    (hfb := h.noHeader (by simp [awaitsBody, hs]))
    (hlen := fun hz => absurd (h.respLen_eq_zero (.inr (.inl hs))) hz)
    (hph := fun hp => absurd hp (h.not_body (.inr (.inl hs))))
    (hset := fun _ => rfl) (hclear := by simp) (hx := by simp)

/-- The trailing drain is entered with FRAME_BUF empty (R113, R119). -/
theorem Inv.drainTrailing (h : Inv s) (hres : s.result = .none) (hb : ¬ awaitsBody s) : Inv { s with state := .drainingTrailing } :=
  h.enter hres (hbusy := rfl) (hfb := h.noHeader hb) (hlen := by simp) (hph := by simp) (hset := by simp) (hclear := by simp)
    (hx := by simp)

theorem Inv.ackSuccess (h : Inv s) (hs : s.state = .awaitingAck ∨ s.state = .retrySend) : Inv (ackSuccess s) := by
  have hb : busy s = true := by rcases hs with hs | hs <;> simp [busy, isBusy, hs]
  have hres := h.result_eq_none hb
  unfold Machine.ackSuccess
  split_ifs with hx
  · exact h.enter hres (hbusy := rfl) (hfb := rfl) (hlen := fun hz => absurd (h.respLen_eq_zero (by tauto)) hz)
      (hph := by simp) (hset := by simp) (hclear := by simp) (hx := fun _ => hx)
  · exact h.drainTrailing hres fun ⟨hw, _⟩ => by simp [hw] at hs

theorem Inv.sendAck (h : Inv s) (hs : s.state = .sendingResponseAck) {f : List Byte} (hf : SentFrame f) : Inv (sendAck s f) :=
  (h.txSend hf).drainTrailing (h.result_eq_none (by simp [busy, isBusy, hs])) (by simp [awaitsBody, hs])

/-- A header that passed its check opens the body phase (R102). -/
theorem Inv.takeHeader (h : Inv s) (hs : s.state = .awaitingResponse) {b : List Byte} (hl : b.length = config.headerLen)
    (hb : msgHeaderOk config b = true) : Inv { s with frameBuf := b, rspPhase := .body } :=
  { h with
    bodyHeader := fun _ => ⟨hl, hb⟩
    noHeader := fun hn => absurd ⟨hs, rfl⟩ hn
    phaseHdr := fun _ => .inl hs }

/-- RESP_SEQ, RESP_BUF and RESP_LEN may be written while the response is being acknowledged, with fields that fit (R27, R28). -/
theorem Inv.storeResponse (h : Inv s) (hs : s.state = .sendingResponseAck) {fields : List Byte} (hl : fields.length ≤ 247) (q : Byte) :
    Inv { s with respSeq := q, respBuf := storeFields s.respBuf fields, respLen := BitVec.ofNat 8 fields.length } :=
  { h with
    bufLength := (storeFields_length (by rw [h.bufLength]; exact hl)).trans h.bufLength
    lenBound := by simp only [BitVec.toNat_ofNat, config_lengths]; omega
    lenZero := fun _ => .inl hs
    noResponse := fun hx => by rw [h.responseExpected (.inr hs)] at hx; cases hx }

theorem Inv.acceptResponse (h : Inv s) (hs : s.state = .awaitingResponse) {r : Response} (hl : r.fields.length ≤ 247) :
    Inv (acceptResponse s r) :=
  have hack : Inv { s with state := .sendingResponseAck, retried := s.retried, rspPhase := s.rspPhase, frameBuf := [] } :=
    h.enter (h.result_eq_none (by simp [busy, isBusy, hs])) (hbusy := rfl) (hfb := rfl) (hlen := by simp) (hph := by simp)
      (hset := by simp) (hclear := by simp) (hx := fun _ => h.responseExpected (.inl hs))
  hack.storeResponse rfl hl r.echoSeq

/-- A START turned away sets REJ, which has to be clear in IDLE only (R20, R109). -/
theorem Inv.setRej (h : Inv s) (hb : busy s = true) : Inv { s with rej := true } :=
  { h with rejIdle := fun hs => by simp [busy, isBusy, show s.state = .idle from hs] at hb }

theorem Inv.writeReg (h : Inv s) (o : Offset) (v : Byte) : Inv (writeReg s o v) := by
  rw [writeReg_frame]
  exact { h with flagsReserved := writeReg_flags h.flagsReserved o v }

/-! ### Turns, commands and events -/

theorem Inv.drainTurn (h : Inv s) (ht : drainTurn s = .stepped t) : Inv t := by
  obtain ⟨-, rfl⟩ | ⟨n, -, -, rfl⟩ := drainTurn_stepped ht
  · exact h.finish (by simp)
  · exact h.rxDrop n

/-- An ack read keeps the invariant if what a retry-ACK leads to does. -/
theorem Inv.ackTurn (h : Inv s) (hs : s.state = .awaitingAck ∨ s.state = .retrySend) {k : State → State}
    (hk : Inv (k (Machine.rxDrop s 10))) (ht : ackTurn k s = .stepped t) : Inv t := by
  obtain ⟨-, ⟨e, -, rfl⟩ | ⟨-, rfl⟩ | ⟨-, rfl⟩⟩ := ackTurn_stepped ht
  · exact (h.rxDrop 10).finish (codeOf_ne_none e)
  · exact (h.rxDrop 10).ackSuccess hs
  · exact hk

theorem Inv.headerTurn (h : Inv s) (hs : s.state = .awaitingResponse) (ht : headerTurn s = .stepped t) : Inv t := by
  obtain ⟨hl, ⟨hb, rfl⟩ | ⟨-, rfl⟩⟩ := headerTurn_stepped ht
  · exact (h.rxDrop 8).takeHeader hs (by simpa [config_lengths] using hl) hb
  · exact (h.rxDrop 8).finish (by simp)

theorem Inv.bodyTurn (h : Inv s) (hs : s.state = .awaitingResponse) (ht : bodyTurn s = .stepped t) : Inv t := by
  obtain ⟨-, -, ⟨e, -, rfl⟩ | ⟨r, hr, rfl⟩⟩ := bodyTurn_stepped ht
  · exact (h.rxDrop _).finish (codeOf_ne_none e)
  · exact (h.rxDrop _).acceptResponse hs (decodeMessage_fields_length hr)

/-- Each row of the transition table keeps the invariant (R128). -/
theorem Inv.engineTurn (h : Inv s) (ht : engineTurn s = .stepped t) : Inv t := by
  have request (u : State) : SentFrame (requestBytes u) := .request ..
  obtain ⟨hs, -, rfl⟩ | ⟨-, -, rfl⟩ | ⟨-, -, ht⟩ | ⟨hs, ht⟩ | ⟨hs, ht⟩ | ⟨hs, -, ht⟩ | ⟨hs, -, ht⟩ | ⟨hs, rfl⟩ := engineTurn_stepped ht
  · exact h.sendRequest hs (request s)
  · exact h.finish (by simp)
  · exact h.drainTurn ht
  · exact h.ackTurn (.inl hs) ((h.rxDrop 10).resendRequest hs (request _)) ht
  · exact h.ackTurn (.inr hs) ((h.rxDrop 10).finish (by simp)) ht
  · exact h.headerTurn hs ht
  · exact h.bodyTurn hs ht
  · exact h.sendAck hs (.ack _)

/-- A turn as a step keeps the invariant: a hold and a quiescent state change nothing. -/
theorem Inv.outcome (h : Inv s) (ht : (Machine.engineTurn s).outcome s = .next t) : Inv t := by
  cases hc : Machine.engineTurn s <;> rw [hc] at ht <;> cases ht
  case stepped => exact h.engineTurn hc
  all_goals exact h

theorem Inv.execStart (h : Inv s) (ht : execStart s = .next t) : Inv t := by
  unfold Machine.execStart at ht
  split_ifs at ht with hb <;> cases ht
  · exact h.setRej hb
  · exact h.beginExchange

theorem Inv.execAbort (h : Inv s) (ht : execAbort s = .next t) : Inv t := by
  unfold Machine.execAbort at ht
  split_ifs at ht <;> cases ht
  · exact h.finish (by simp)
  · exact h

theorem Inv.exec_command (h : Inv s) {i : Instr} (hc : i.channel = .command) (ht : exec i s = .next t) : Inv t := by
  cases i with
  | nop => cases ht; exact h
  | crcInit => cases ht; exact { h with }
  | crcUpdate => cases ht; exact { h with }
  | start => exact h.execStart ht
  | abort => exact h.execAbort ht
  | _ => cases hc

/-- The reset state meets the invariant (R36). -/
theorem inv_reset : Inv State.reset where
  bufLength := List.length_replicate
  lenBound := Nat.zero_le _
  lenZero := fun hz => absurd rfl hz
  flagsReserved := rfl
  bodyHeader := fun ⟨hs, _⟩ => by cases hs
  noHeader := fun _ => rfl
  phaseHdr := fun hp => by cases hp
  resultNone := fun _ _ => rfl
  resultDone := fun hs => by cases hs
  resultFailed := fun hs => by cases hs
  retriedSet := fun hs => by cases hs
  retriedClear := fun _ => rfl
  rejIdle := fun _ => rfl
  responseExpected := fun hs => by rcases hs with hs | hs <;> cases hs
  noResponse := fun _ => ⟨rfl, rfl⟩
  txFrames := .nil

/-- The invariant does not read the events to come. -/
theorem Inv.nextEvent (h : Inv s) : Inv (nextEvent s).2 := by
  rw [nextEvent_state]; exact { h with }

/-- One event of any kind keeps the invariant. -/
theorem Inv.step (h : Inv s) (ht : step s = .next t) : Inv t := by
  have hu := h.nextEvent
  cases he : (Machine.nextEvent s).1 with
  | engine => rw [step_of_engine he] at ht; exact hu.outcome ht
  | hostWrite o v =>
    cases hc : fetchCommand o v with
    | some i => rw [step_of_command he hc] at ht; exact hu.exec_command (fetchCommand_channel hc) ht
    | none => rw [step_of_registerWrite he hc] at ht; cases ht; exact hu.writeReg o v
  | hostRead o => rw [step_of_hostRead he] at ht; cases ht; exact { hu with }
  | deliver b bs => rw [step_of_deliver he] at ht; cases ht; exact { hu with }
  | reset => rw [step_of_reset he] at ht; cases ht; exact { inv_reset with }

/-- The engine of a state that meets the invariant is never stuck: the body phase has its header (log 11). -/
theorem Inv.engine_not_stuck (h : Inv s) (r : Fault) : Machine.engineTurn s ≠ .stuck r := by
  intro hr
  obtain ⟨hs, hp, hl⟩ := engineTurn_stuck hr
  have hlen : s.frameBuf.length = 8 := (h.bodyHeader ⟨hs, hp⟩).1
  omega

end Sys2Proof.Safety
end

section
/-! PROOFS. The invariant: at reset, kept by every step, and enough that no step stops (O43, O44, O45). -/

namespace Sys2Proof

open Sys2Proof.Machine Sys2Proof.Safety

/-- Settles O43. -/
theorem resetMeetsInvariant : Obligations.ResetMeetsInvariant := inv_reset

/-- Settles O44, by the kind of event; at the engine's turn, by the row of the transition table. -/
theorem stepKeepsInvariant : Obligations.StepKeepsInvariant := fun _ _ hi ht => hi.step ht

/-- Settles O45: only the engine could stop the block, where the header of the body phase is missing. -/
theorem stepNeverStops : Obligations.StepNeverStops := by
  intro s hi
  cases he : (nextEvent s).1 with
  | engine =>
    rw [step_of_engine he]
    cases ht : engineTurn (nextEvent s).2 with
    | stuck r => exact absurd ht (hi.nextEvent.engine_not_stuck r)
    | _ => exact ⟨_, rfl⟩
  | hostWrite o v =>
    cases hc : fetchCommand o v with
    | some i => rw [step_of_command he hc]; exact exec_command_next (fetchCommand_channel hc) _
    | none => exact ⟨_, step_of_registerWrite he hc⟩
  | hostRead o => exact ⟨_, step_of_hostRead he⟩
  | deliver b bs => exact ⟨_, step_of_deliver he⟩
  | reset => exact ⟨_, step_of_reset he⟩

end Sys2Proof
end

section
/-! PROOFS. The engine and the host's own registers (O49): each turn is the same turn whatever they hold, and carries them through. -/

namespace Sys2Proof.Machine

open Sys2Proof.Claims

/-- A turn with its next state changed. -/
def Turn.map (f : State → State) : Turn → Turn
  | .stepped s => .stepped (f s)
  | .hold => .hold
  | .quiescent => .quiescent
  | .stuck r => .stuck r

/-- `f` gives the descriptor and the Checksum Unit's registers fixed values, and changes nothing else. -/
def SetsHostRegs (f : State → State) : Prop := ∃ tc iid rc fl acc d, f = fun s => withHostRegs s tc iid rc fl acc d

/-- The turn reads nothing that `f` writes, and leaves it as it is. -/
def Carries (f : State → State) (turn : State → Turn) : Prop := ∀ s, turn (f s) = (turn s).map f

section
variable {f : State → State} (hf : SetsHostRegs f) (s : State)
include hf

/-- What the engine reads is the same behind `f`. -/
theorem SetsHostRegs.reads : (f s).state = s.state ∧ (f s).rspPhase = s.rspPhase ∧ (f s).frameBuf = s.frameBuf ∧ (f s).rx = s.rx ∧
    (f s).seq = s.seq ∧ (f s).ctr = s.ctr ∧ (f s).xTc = s.xTc ∧ (f s).xIid = s.xIid ∧ (f s).xRc = s.xRc ∧ (f s).xExp = s.xExp ∧
    (f s).respSeq = s.respSeq ∧ requestBytes (f s) = requestBytes s := by
  obtain ⟨tc, iid, rc, fl, acc, d, rfl⟩ := hf
  simp [withHostRegs, requestBytes]

/-- What the engine writes, it writes behind `f` as before it. -/
theorem SetsHostRegs.writes : (∀ n, rxDrop (f s) n = f (rxDrop s n)) ∧ (∀ r, finish (f s) r = f (finish s r)) ∧
    (∀ r, acceptResponse (f s) r = f (acceptResponse s r)) ∧ (∀ b, sendRequest (f s) b = f (sendRequest s b)) ∧
    (∀ b, resendRequest (f s) b = f (resendRequest s b)) ∧ (∀ b, sendAck (f s) b = f (sendAck s b)) ∧
    ackSuccess (f s) = f (ackSuccess s) := by
  obtain ⟨tc, iid, rc, fl, acc, d, rfl⟩ := hf
  refine ⟨fun _ => rfl, fun _ => rfl, fun _ => rfl, fun _ => rfl, fun _ => rfl, fun _ => rfl, ?_⟩
  have hx : (withHostRegs s tc iid rc fl acc d).xExp = s.xExp := rfl
  simp only [ackSuccess, hx]
  split_ifs <;> rfl

end

variable {f : State → State}

/-- A read carries the host's registers through if what follows it does. -/
theorem carries_readExact (hf : SetsHostRegs f) {n : Nat} {k : List Byte → State → Turn} (hk : ∀ b, Carries f (k b)) :
    Carries f (readExact n · k) := by
  intro s
  simp only [readExact, hf.reads s, hf.writes s]
  split_ifs
  · rfl
  · exact hk _ (rxDrop s n)

theorem carries_drainTurn (hf : SetsHostRegs f) : Carries f drainTurn := by
  intro s
  simp only [drainTurn, hf.reads s, hf.writes s]
  cases classify config s.rx with
  | unknown => rfl
  | need k => rfl
  | len n => dsimp only; split_ifs <;> rfl

/-- An ack read does so if what a retry-ACK leads to does. -/
theorem carries_ackTurn (hf : SetsHostRegs f) {k : State → State} (hk : ∀ s, k (f s) = f (k s)) : Carries f (ackTurn k) := by
  refine carries_readExact hf fun b s => ?_
  simp only [hf.reads s, hf.writes s, hk s]
  cases decodeAck config b s.seq with
  | error e => rfl
  | ok retry => cases retry <;> rfl

theorem carries_headerTurn (hf : SetsHostRegs f) : Carries f headerTurn := by
  refine carries_readExact hf fun b s => ?_
  obtain ⟨tc, iid, rc, fl, acc, d, rfl⟩ := hf
  dsimp only
  split_ifs <;> rfl

theorem carries_bodyTurn (hf : SetsHostRegs f) : Carries f bodyTurn := by
  intro s
  unfold bodyTurn
  simp only [hf.reads s]
  split_ifs
  · rfl
  · refine carries_readExact hf (fun b u => ?_) s
    simp only [hf.reads u, hf.writes u]
    cases decodeMessage config (u.frameBuf ++ b) u.ctr u.xTc u.xIid u.xRc <;> rfl

/-- The read of each STATE does so. -/
theorem carries_readTurn (hf : SetsHostRegs f) : Carries f readTurn := by
  intro s
  have hfirst (u : State) : firstRetry (f u) = f (firstRetry u) := by simp only [firstRetry_eq, hf.reads u, hf.writes u]
  have hsecond (u : State) : secondRetry (f u) = f (secondRetry u) := by simp only [secondRetry, hf.writes u]
  simp only [readTurn, hf.reads s]
  cases s.state with
  | idle | sendingResponseAck | done | failed => rfl
  | draining | drainingTrailing => exact carries_drainTurn hf s
  | awaitingAck => exact carries_ackTurn hf hfirst s
  | retrySend => exact carries_ackTurn hf hsecond s
  | awaitingResponse =>
    cases s.rspPhase with
    | hdr => exact carries_headerTurn hf s
    | body => exact carries_bodyTurn hf s

/-- The engine's turn does so: a read, a send, or the end of the trailing drain (R154). -/
theorem carries_engineTurn (hf : SetsHostRegs f) : Carries f engineTurn := by
  intro s
  have hread := carries_readTurn hf s
  simp only [engineTurn, hf.reads s, hf.writes s, hread]
  cases s.state with
  | draining | drainingTrailing => dsimp only; split_ifs <;> rfl
  | idle | awaitingAck | retrySend | awaitingResponse | sendingResponseAck | done | failed => rfl

end Sys2Proof.Machine

namespace Sys2Proof

open Sys2Proof.Machine Sys2Proof.Claims

/-- Settles O49, by the STATE whose turn it is. -/
theorem engineIgnoresHostRegisters : Obligations.EngineIgnoresHostRegisters := by
  intro s tc iid rc fl acc d
  have hc := carries_engineTurn ⟨tc, iid, rc, fl, acc, d, rfl⟩ s
  rw [hc]
  cases engineTurn s <;> rfl

end Sys2Proof
end

section
/-! PROOFS. The STATUS view and BUSY by STATE (R17, R18). -/

namespace Sys2Proof.Machine

/-- The bits of the STATUS view (R18). -/
theorem statusByte_bits (s : State) :
    (statusByte s).extractLsb' 0 4 = stateCode s.state ∧ (statusByte s).getLsbD 4 = busy s ∧
      (statusByte s).getLsbD 5 = s.retried ∧ (statusByte s).getLsbD 6 = s.rej ∧ (statusByte s).getLsbD 7 = false := by
  unfold statusByte busy
  generalize s.retried = retried
  generalize s.rej = rej
  cases s.state <;> revert retried rej <;> decide

/-- The six BUSY states (R17). -/
theorem busy_iff (s : State) : busy s = true ↔ s.state ∈ [EngineState.draining, .awaitingAck, .retrySend, .awaitingResponse,
    .sendingResponseAck, .drainingTrailing] := by
  cases hs : s.state <;> simp [busy, isBusy, hs]

end Sys2Proof.Machine
end

section
/-! PROOFS. A command as one step, the STATUS view and the reset (O6, O53, O54). -/

namespace Sys2Proof

open Sys2Proof.Machine Sys2Proof.Claims

/-- Settles O6. -/
theorem stepRunsCommand : Obligations.StepRunsCommand :=
  fun _ _ _ _ hd => step_of_command rfl (fetchCommand_of_decode hd)

/-- Settles O53. -/
theorem statusShowsProgress : Obligations.StatusShowsProgress := by
  intro s v rest
  obtain ⟨hcode, hbusy, hretried, hrej, hzero⟩ := statusByte_bits s
  have hcodes : stateCode s.state = code16 s.state := by cases s.state <;> rfl
  refine ⟨hcode.trans hcodes, hbusy, hretried, hrej, hzero, step_of_registerWrite (o := 0x0001) (v := v) rfl rfl,
    ⟨_, step_of_hostRead rfl, rfl⟩, busy_iff s, by simp [busy_eq_false_iff], fun hb => congrArg _ (if_pos hb)⟩

/-- Settles O54. -/
theorem resetPutsEveryElement : Obligations.ResetPutsEveryElement :=
  fun _ _ => ⟨_, step_of_reset rfl, rfl⟩

end Sys2Proof
end

section
/-! PROOFS. What an event leaves of RX and TX: an operation, an engine turn, a host access, a delivery. -/

namespace Sys2Proof.Machine

variable {s t : State}

/-! ### The event taken and the state behind it -/

/-- The event at the head of the agenda is the next (R53). -/
theorem nextEvent_of_cons {e : Event} {rest : List Event} (h : s.agenda = e :: rest) :
    nextEvent s = (e, { s with agenda := rest }) := by
  rw [nextEvent, h]

@[simp] theorem nextEvent_snd_state (s : State) : (nextEvent s).2.state = s.state := by rw [nextEvent_state]

@[simp] theorem nextEvent_snd_rx (s : State) : (nextEvent s).2.rx = s.rx := by rw [nextEvent_state]

@[simp] theorem nextEvent_snd_tx (s : State) : (nextEvent s).2.tx = s.tx := by rw [nextEvent_state]

@[simp] theorem busy_nextEvent_snd (s : State) : busy (nextEvent s).2 = busy s := congrArg isBusy (nextEvent_snd_state s)

/-! ### Host accesses -/

@[simp] theorem writeReg_state (s : State) (o : Offset) (v : Byte) : (writeReg s o v).state = s.state := by
  rw [writeReg_frame]

@[simp] theorem writeReg_rx (s : State) (o : Offset) (v : Byte) : (writeReg s o v).rx = s.rx := by
  rw [writeReg_frame]

@[simp] theorem writeReg_tx (s : State) (o : Offset) (v : Byte) : (writeReg s o v).tx = s.tx := by
  rw [writeReg_frame]

/-- A START is turned away with REJ set, or begins an exchange (R109). -/
theorem exec_start_next (h : exec .start s = .next t) :
    (busy s = true ∧ t = { s with rej := true }) ∨ (busy s = false ∧ t = beginExchange s) := by
  have ht : (if busy s = true then { s with rej := true } else beginExchange s) = t := by simpa [exec, execStart] using h
  split_ifs at ht with hb
  · exact .inl ⟨hb, ht.symm⟩
  · exact .inr ⟨by simpa using hb, ht.symm⟩

/-- An ABORT ends the exchange in flight, or does nothing (R124). -/
theorem exec_abort_next (h : exec .abort s = .next t) :
    (busy s = true ∧ t = finish s .aborted) ∨ (busy s = false ∧ t = s) := by
  have ht : (if busy s = true then finish s .aborted else s) = t := by simpa [exec, execAbort] using h
  split_ifs at ht with hb
  · exact .inl ⟨hb, ht.symm⟩
  · exact .inr ⟨by simpa using hb, ht.symm⟩

/-- No command touches RX. -/
theorem exec_command_rx {i : Instr} (hc : i.channel = .command) (h : exec i s = .next t) : t.rx = s.rx := by
  cases i with
  | nop | crcInit | crcUpdate => cases h; rfl
  | start => obtain ⟨-, rfl⟩ | ⟨-, rfl⟩ := exec_start_next h <;> rfl
  | abort => obtain ⟨-, rfl⟩ | ⟨-, rfl⟩ := exec_abort_next h <;> rfl
  | _ => cases hc

/-- No host write touches RX, a command or not. -/
theorem step_hostWrite_rx {o : Offset} {v : Byte} (he : (nextEvent s).1 = .hostWrite o v) (h : step s = .next t) : t.rx = s.rx := by
  cases hc : fetchCommand o v with
  | some i =>
    rw [step_of_command he hc] at h
    simpa using exec_command_rx (fetchCommand_channel hc) h
  | none =>
    rw [step_of_registerWrite he hc] at h
    cases h
    simp

/-! ### The engine's turn -/

/-- The engine's turn as a step is its enabled step, or changes nothing but the event taken (R108, R150). -/
theorem step_engine_next (he : (nextEvent s).1 = .engine) (h : step s = .next t) :
    engineTurn (nextEvent s).2 = .stepped t ∨ t = (nextEvent s).2 := by
  rw [step_of_engine he] at h
  cases ht : engineTurn (nextEvent s).2 <;> rw [ht] at h <;> cases h
  · exact .inl rfl
  all_goals exact .inr rfl

/-- A drain step takes its frame from the head of RX, or nothing (R104). -/
theorem drainTurn_rx (h : drainTurn s = .stepped t) : ∃ n, t.rx = s.rx.drop n := by
  obtain ⟨-, rfl⟩ | ⟨n, -, -, rfl⟩ := drainTurn_stepped h
  · exact ⟨0, rfl⟩
  · exact ⟨n, rfl⟩

/-- An ack read takes its bytes from the head of RX, if what a retry-ACK leads to leaves RX (R100). -/
theorem ackTurn_rx {k : State → State} (hk : ∀ s, (k s).rx = s.rx) (h : ackTurn k s = .stepped t) : t.rx = s.rx.drop 10 := by
  obtain ⟨-, ⟨e, -, rfl⟩ | ⟨-, rfl⟩ | ⟨-, rfl⟩⟩ := ackTurn_stepped h <;> simp [hk]

theorem headerTurn_rx (h : headerTurn s = .stepped t) : t.rx = s.rx.drop 8 := by
  obtain ⟨-, ⟨-, rfl⟩ | ⟨-, rfl⟩⟩ := headerTurn_stepped h <;> rfl

theorem bodyTurn_rx (h : bodyTurn s = .stepped t) : t.rx = s.rx.drop (bodyLen s.frameBuf) := by
  obtain ⟨-, -, ⟨e, -, rfl⟩ | ⟨r, -, rfl⟩⟩ := bodyTurn_stepped h <;> rfl

/-- An engine step takes bytes from the head of RX and changes nothing else of it (R49). -/
theorem engineTurn_rx (h : engineTurn s = .stepped t) : ∃ n, t.rx = s.rx.drop n := by
  obtain ⟨-, -, rfl⟩ | ⟨-, -, rfl⟩ | ⟨-, -, h⟩ | ⟨-, h⟩ | ⟨-, h⟩ | ⟨-, -, h⟩ | ⟨-, -, h⟩ | ⟨-, rfl⟩ := engineTurn_stepped h
  · exact ⟨0, rfl⟩
  · exact ⟨0, rfl⟩
  · exact drainTurn_rx h
  · exact ⟨10, ackTurn_rx (k := firstRetry) (fun _ => rfl) h⟩
  · exact ⟨10, ackTurn_rx (k := secondRetry) (fun _ => rfl) h⟩
  · exact ⟨8, headerTurn_rx h⟩
  · exact ⟨_, bodyTurn_rx h⟩
  · exact ⟨0, rfl⟩

end Sys2Proof.Machine
end

section
/-! PROOFS. The frames of an exchange (R50, R51): an event sends nothing, or one whole frame that is taken off the budget of the exchange. -/

namespace Sys2Proof.Claims

open Sys2Proof.Machine Sys2Proof.Safety

/-- From `s` to `t` nothing is sent, and the budget of the exchange does not grow. -/
def SendsNothing (s t : State) : Prop := t.tx = s.tx ∧ framesLeft t.state ≤ framesLeft s.state

/-- From `s` to `t` one whole frame is sent and taken off the budget of the exchange. -/
def SendsOne (s t : State) : Prop := ∃ f, SentFrame f ∧ t.tx = s.tx ++ f ∧ framesLeft t.state + 1 ≤ framesLeft s.state

variable {s t : State}

theorem SendsNothing.of_same (htx : t.tx = s.tx) (hst : t.state = s.state) : SendsNothing s t := ⟨htx, by rw [hst]⟩

/-- Taking the event off the agenda sends nothing. -/
@[simp] theorem sendsNothing_nextEvent (s t : State) : SendsNothing (nextEvent s).2 t ↔ SendsNothing s t := by
  simp [SendsNothing]

@[simp] theorem sendsOne_nextEvent (s t : State) : SendsOne (nextEvent s).2 t ↔ SendsOne s t := by
  simp [SendsOne]

/-- The end of an exchange sends nothing, and leaves nothing to send (R137). -/
theorem sendsNothing_finish (s : State) (r : ResultCode) : SendsNothing s (finish s r) := by
  have hzero : framesLeft (finish s r).state = 0 := by
    rw [finish_state]; split_ifs <;> rfl
  exact ⟨rfl, by rw [hzero]; exact Nat.zero_le _⟩

/-- An acknowledged request leaves the response-ack to send, or nothing (R113). -/
theorem sendsNothing_ackSuccess (hs : 1 ≤ framesLeft s.state) : SendsNothing s (ackSuccess s) := by
  refine ⟨ackSuccess_tx s, ?_⟩
  rw [ackSuccess_state]
  split_ifs
  · exact hs
  · exact Nat.zero_le _

/-- A request or a response-ack of the Frame Codec goes out, and what may follow it is one frame less (R111, R114, R119). -/
theorem sendsOne_sendRequest (hs : s.state = .draining) : SendsOne s (sendRequest s (requestBytes s)) :=
  ⟨_, .request .., rfl, by simp [hs, framesLeft]⟩

theorem sendsOne_firstRetry (hs : s.state = .awaitingAck) : SendsOne s (firstRetry s) :=
  ⟨_, .request .., rfl, by simp [hs, framesLeft, firstRetry_eq]⟩

theorem sendsOne_sendAck (hs : s.state = .sendingResponseAck) : SendsOne s (sendAck s (encodeAck config s.respSeq)) :=
  ⟨_, .ack _, rfl, by simp [hs, framesLeft]⟩

theorem drainTurn_sendsNothing (h : drainTurn s = .stepped t) : SendsNothing s t := by
  obtain ⟨-, rfl⟩ | ⟨n, -, -, rfl⟩ := drainTurn_stepped h
  · exact sendsNothing_finish s _
  · exact .of_same rfl rfl

/-- An ack read sends nothing, but what a retry-ACK leads to may (R112 to R116). -/
theorem ackTurn_sends {k : State → State} (hs : 1 ≤ framesLeft s.state) (h : ackTurn k s = .stepped t) :
    SendsNothing s t ∨ t = k (rxDrop s 10) := by
  obtain ⟨-, ⟨e, -, rfl⟩ | ⟨-, rfl⟩ | ⟨-, rfl⟩⟩ := ackTurn_stepped h
  · exact .inl (sendsNothing_finish (rxDrop s 10) _)
  · exact .inl (sendsNothing_ackSuccess (s := rxDrop s 10) hs)
  · exact .inr rfl

theorem headerTurn_sendsNothing (h : headerTurn s = .stepped t) : SendsNothing s t := by
  obtain ⟨-, ⟨-, rfl⟩ | ⟨-, rfl⟩⟩ := headerTurn_stepped h
  · exact .of_same rfl rfl
  · exact sendsNothing_finish (rxDrop s 8) _

/-- The body phase leaves the response-ack to send, or nothing (R118). -/
theorem bodyTurn_sendsNothing (hs : s.state = .awaitingResponse) (h : bodyTurn s = .stepped t) : SendsNothing s t := by
  obtain ⟨-, -, ⟨e, -, rfl⟩ | ⟨r, -, rfl⟩⟩ := bodyTurn_stepped h
  · exact sendsNothing_finish (rxDrop s _) _
  · exact ⟨rfl, by simp [hs, framesLeft]⟩

/-- Each row of the transition table sends nothing, or one frame of the budget (R128). -/
theorem engineTurn_sends (h : engineTurn s = .stepped t) : SendsNothing s t ∨ SendsOne s t := by
  obtain ⟨hs, -, rfl⟩ | ⟨-, -, rfl⟩ | ⟨-, -, h⟩ | ⟨hs, h⟩ | ⟨hs, h⟩ | ⟨-, -, h⟩ | ⟨hs, -, h⟩ | ⟨hs, rfl⟩ := engineTurn_stepped h
  · exact .inr (sendsOne_sendRequest hs)
  · exact .inl (sendsNothing_finish s _)
  · exact .inl (drainTurn_sendsNothing h)
  · obtain h | rfl := ackTurn_sends (by simp [hs, framesLeft]) h
    · exact .inl h
    · exact .inr (sendsOne_firstRetry (s := rxDrop s 10) hs)
  · obtain h | rfl := ackTurn_sends (by simp [hs, framesLeft]) h
    · exact .inl h
    · exact .inl (sendsNothing_finish (rxDrop s 10) _)
  · exact .inl (headerTurn_sendsNothing h)
  · exact .inl (bodyTurn_sendsNothing hs h)
  · exact .inr (sendsOne_sendAck hs)

/-- A command sends nothing, and only an accepted START gives an exchange its budget (R109, R124). -/
theorem exec_command_sends {i : Instr} (hc : i.channel = .command) (h : exec i s = .next t) :
    SendsNothing s t ∨ (i = .start ∧ busy s = false ∧ t = beginExchange s) := by
  cases i with
  | nop | crcInit | crcUpdate => cases h; exact .inl (.of_same rfl rfl)
  | start =>
    obtain ⟨-, rfl⟩ | ⟨hb, rfl⟩ := exec_start_next h
    · exact .inl (.of_same rfl rfl)
    · exact .inr ⟨rfl, hb, rfl⟩
  | abort =>
    obtain ⟨-, rfl⟩ | ⟨-, rfl⟩ := exec_abort_next h
    · exact .inl (sendsNothing_finish s _)
    · exact .inl (.of_same rfl rfl)
  | _ => cases hc

/-- A START comes from the write of its opcode to CMD only (R44, R73). -/
theorem fetchCommand_start {o : Offset} {v : Byte} (h : fetchCommand o v = some .start) : o = 0x0000 ∧ v = 0x10 := by
  obtain h' | ⟨ho, ⟨-, h'⟩ | ⟨-, h'⟩ | ⟨-, h'⟩ | ⟨hv, -⟩ | ⟨-, h'⟩⟩ := fetchCommand_cases o v
  case inr.inr.inr.inr.inl => exact ⟨ho, hv⟩
  all_goals rw [h'] at h; cases h

/-- From `s` to `t` a START is accepted: the one step that gives an exchange its budget (R109). -/
def AcceptsStart (s t : State) : Prop :=
  (nextEvent s).1 = .hostWrite 0x0000 0x10 ∧ busy s = false ∧ t.tx = s.tx ∧ t.state = .draining

theorem step_hostWrite_sends {o : Offset} {v : Byte} (he : (nextEvent s).1 = .hostWrite o v) (h : step s = .next t) :
    SendsNothing s t ∨ AcceptsStart s t := by
  cases hc : fetchCommand o v with
  | none =>
    rw [step_of_registerWrite he hc] at h
    cases h
    exact .inl (.of_same (by simp) (by simp))
  | some i =>
    rw [step_of_command he hc] at h
    obtain hn | ⟨rfl, hb, rfl⟩ := exec_command_sends (fetchCommand_channel hc) h
    · exact .inl (by simpa using hn)
    · obtain ⟨rfl, rfl⟩ := fetchCommand_start hc
      exact .inr ⟨he, by simpa using hb, by simp, rfl⟩

/-- What an event but a reset can send: nothing, or one frame of the budget, which only an accepted START gives. -/
theorem step_sends (h : step s = .next t) (hr : (nextEvent s).1 ≠ .reset) :
    SendsNothing s t ∨ SendsOne s t ∨ AcceptsStart s t := by
  cases he : (nextEvent s).1 with
  | engine =>
    obtain hs | rfl := step_engine_next he h
    · have hsends : SendsNothing s t ∨ SendsOne s t := by simpa using engineTurn_sends hs
      exact hsends.imp_right .inl
    · exact .inl (.of_same (by simp) (by simp))
  | hostWrite o v => exact (step_hostWrite_sends he h).imp_right .inr
  | hostRead o => rw [step_of_hostRead he] at h; cases h; exact .inl (.of_same (by simp) (by simp))
  | deliver b bs => rw [step_of_deliver he] at h; cases h; exact .inl (.of_same (by simp) (by simp))
  | reset => exact absurd he hr

end Sys2Proof.Claims
end

section
/-! PROOFS. The streams: TX grows by whole frames, at most three in an exchange, and RX is first-in first-out (O47, O48). -/

namespace Sys2Proof

open Sys2Proof.Machine Sys2Proof.Safety Sys2Proof.Claims

/-- Settles O47, by the kind of event; at the engine's turn, by the row of the transition table. -/
theorem transmitsWholeFramesAtMostThree : Obligations.TransmitsWholeFramesAtMostThree := by
  intro s t ht hr
  obtain ⟨htx, hleft⟩ | hone | ⟨he, hb, htx, hst⟩ := step_sends ht hr
  · exact .inl ⟨htx, .inl hleft⟩
  · exact .inr hone
  · exact .inl ⟨htx, .inr ⟨hb, hst, he⟩⟩

/-- Settles O48, by the kind of event. -/
theorem receiveStreamIsFifo : Obligations.ReceiveStreamIsFifo := by
  intro s t ht
  refine ⟨fun b bs rest ha => ?_, fun he => ?_, fun o v he => step_hostWrite_rx he ht, fun o he => ?_⟩
  · have hn := nextEvent_of_cons ha
    rw [step_of_deliver (congrArg Prod.fst hn), hn] at ht
    cases ht; rfl
  · obtain hs | rfl := step_engine_next he ht
    · simpa using engineTurn_rx hs
    · exact ⟨0, by simp⟩
  · rw [step_of_hostRead he] at ht
    cases ht; simp

end Sys2Proof
end

section
/-! PROOFS. The host register map (R35, R42, R43): what a write of each offset does and what a read of each offset returns. -/

namespace Sys2Proof.Machine

open Sys2Proof.Claims

/-! ### Bytes and bits as the rules write them -/

theorem lo_eq_extract (v : Half) : lo v = v.extractLsb' 0 8 := by
  ext i hlt; simp [lo]

theorem hi_eq_extract (v : Half) : hi v = v.extractLsb' 8 8 := by
  ext i hlt; simp [hi]

/-- A 16-bit value is its high byte before its low byte (R8). -/
theorem pair_eq_append (h l : Byte) : pair h l = h ++ l := by
  rw [pair_eq_iff, lo_eq_extract, hi_eq_extract]
  exact ⟨BitVec.extractLsb'_append_eq_right.symm, BitVec.extractLsb'_append_eq_left.symm⟩

/-- Bit 0 is what a host sees and writes of REQ_FLAGS (R21). -/
theorem flagsMask_eq_extract (v : Byte) : flagsMask v = (v.extractLsb' 0 1).setWidth 8 := by
  apply BitVec.eq_of_toNat_eq
  simp [flagsMask, Nat.and_one_is_mod]
  omega

theorem stateCode_eq_code16 (st : EngineState) : stateCode st = code16 st := by cases st <;> rfl

theorem resultByte_eq_code136 (r : ResultCode) : resultByte r = code136 r := by cases r <;> rfl

/-- A code of four bits, three bits above it and a zero bit, as one byte. -/
theorem code_or_bits : ∀ (c : BitVec 4) (b4 b5 b6 : Bool), c.setWidth 8 ||| bitAt b4 4 ||| bitAt b5 5 ||| bitAt b6 6 =
    0#1 ++ BitVec.ofBool b6 ++ BitVec.ofBool b5 ++ BitVec.ofBool b4 ++ c := by
  decide

/-- STATUS, from its top bit down (R18). -/
theorem statusByte_eq_append (s : State) :
    statusByte s = 0#1 ++ BitVec.ofBool s.rej ++ BitVec.ofBool s.retried ++ BitVec.ofBool (busy s) ++ code16 s.state := by
  rw [statusByte, code_or_bits, stateCode_eq_code16]

/-! ### Writes -/

/-- SEQ and CTR are written while BUSY = 0 (R43). -/
theorem writeReg_counters_of_not_busy {s : State} (h : busy s = false) (v : Byte) :
    writeReg s offSeq v = { s with seq := v } ∧
    writeReg s offCtrLo v = { s with ctr := s.ctr.extractLsb' 8 8 ++ v } ∧
    writeReg s offCtrHi v = { s with ctr := v ++ s.ctr.extractLsb' 0 8 } := by
  rw [← hi_eq_extract, ← lo_eq_extract, ← pair_eq_append, ← pair_eq_append]
  have hb : ¬ busy s = true := by simp [h]
  exact ⟨if_neg hb, if_neg hb, if_neg hb⟩

/-- While BUSY = 1 a write of SEQ or CTR is ignored (R43). -/
theorem writeReg_counters_of_busy {s : State} (h : busy s = true) (v : Byte) {o : Offset}
    (ho : o ∈ [(0x0007 : Offset), 0x0008, 0x0009]) : writeReg s o v = s := by
  simp only [List.mem_cons, List.not_mem_nil, or_false] at ho
  obtain rfl | rfl | rfl := ho <;> exact if_pos h

/-- A write of a read-only or unmapped offset changes nothing (R37, R43). -/
theorem writeReg_of_not_writable {o : Offset} (h : ¬ writable o) (s : State) (v : Byte) : writeReg s o v = s := by
  have hne {r : Offset} (hr : writable r) : (o = r) = False := eq_false fun he => h (he ▸ hr)
  simp (disch := (unfold writable; decide)) only [writeReg, hne, if_false]

/-- A host write of any offset but CMD, as one step. -/
theorem step_write_of_ne_cmd {o : Offset} (h : o ≠ offCmd) (s : State) (v : Byte) (rest : List Event) :
    step { s with agenda := .hostWrite o v :: rest } = .next (writeReg { s with agenda := rest } o v) :=
  step_of_registerWrite rfl (if_neg h)

/-- No host write faults (R43). -/
theorem step_hostWrite_next {s : State} {o : Offset} {v : Byte} (he : (nextEvent s).1 = .hostWrite o v) :
    ∃ t, step s = .next t := by
  cases hc : fetchCommand o v with
  | some i => rw [step_of_command he hc]; exact exec_command_next (fetchCommand_channel hc) _
  | none => exact ⟨_, step_of_registerWrite he hc⟩

/-! ### Reads -/

/-- Above the single registers there is RESP_BUF only (R35). -/
theorem readReg_of_high {o : Offset} (h : 0x000F ≤ o.toNat) (s : State) :
    readReg s o = if 0x0100 ≤ o.toNat ∧ o.toNat < 0x0100 + 247 then readRespBuf s (o.toNat - 0x0100) else 0x00 := by
  have hne {r : Offset} (hr : r.toNat < 0x000F) : (o = r) = False := eq_false (by rintro rfl; omega)
  simp (disch := decide) only [readReg, hne, if_false]
  rfl

/-- A read of RESP_BUF[i] returns the field there, and 0 from RESP_LEN on (R28, R42). -/
theorem readReg_respBuf {i : Nat} (h : i < 247) (s : State) :
    readReg s (0x0100 + BitVec.ofNat 16 i) = if i < s.respLen.toNat then s.respBuf.getD i 0x00 else 0x00 := by
  have ho : (0x0100 + BitVec.ofNat 16 i : Offset).toNat = 0x0100 + i := by
    simp only [BitVec.toNat_add, BitVec.toNat_ofNat, BitVec.ofNat_eq_ofNat]; omega
  rw [readReg_of_high (by omega), ho, if_pos (by omega), Nat.add_sub_cancel_left]
  rfl

/-- An unmapped offset reads 0 (R37). -/
theorem readReg_of_not_mapped {o : Offset} (h : ¬ mapped o) (s : State) : readReg s o = 0x00 := by
  obtain ⟨hlow, hbuf⟩ := not_or.mp h
  rw [readReg_of_high (by omega), if_neg hbuf]

/-- A read shows the block's own elements: neither the events to come nor the record of reads. -/
theorem readReg_hostRead (s : State) (o o' : Offset) (rest : List Event) :
    readReg (hostRead { s with agenda := rest } o) o' = readReg s o' := rfl

end Sys2Proof.Machine
end

section
/-! PROOFS. A host access of each register, as one step (O50, O51). -/

namespace Sys2Proof

open Sys2Proof.Machine Sys2Proof.Claims

/-- Settles O50, by the offset. -/
theorem hostWritesRegisters : Obligations.HostWritesRegisters := by
  intro s v rest
  have register {o : Offset} (ho : o ≠ offCmd) {t : State} (ht : writeReg { s with agenda := rest } o v = t) :
      step { s with agenda := .hostWrite o v :: rest } = .next t := by
    rw [step_write_of_ne_cmd ho, ht]
  refine ⟨register (by decide) rfl, register (by decide) rfl, register (by decide) rfl, ?flags, register (by decide) rfl,
    fun hb => ?counters, fun hb o ho => ?busy, fun i hi => step_of_command rfl (fetchCommand_of_decode hi), fun o ho => ?readOnly,
    fun o => step_hostWrite_next rfl⟩
  case flags => rw [← flagsMask_eq_extract]; exact register (by decide) rfl
  case counters =>
    obtain ⟨hseq, hlo, hhi⟩ := writeReg_counters_of_not_busy (s := { s with agenda := rest }) hb v
    exact ⟨register (by decide) hseq, register (by decide) hlo, register (by decide) hhi⟩
  case busy =>
    have hcmd : o ≠ offCmd := by rintro rfl; revert ho; decide
    exact register hcmd (writeReg_counters_of_busy (s := { s with agenda := rest }) hb v ho)
  case readOnly =>
    have hcmd : o ≠ offCmd := by rintro rfl; exact ho (List.mem_cons_self ..)
    exact register hcmd (writeReg_of_not_writable ho _ v)

/-- Settles O51, by the offset. -/
theorem hostReadsRegisters : Obligations.HostReadsRegisters := by
  intro s o rest
  refine ⟨⟨_, step_of_hostRead rfl, rfl, fun o' => readReg_hostRead s o o' rest⟩, rfl, statusByte_eq_append s,
    resultByte_eq_code136 s.result, rfl, rfl, rfl, flagsMask_eq_extract s.reqFlags, rfl, lo_eq_extract s.ctr, hi_eq_extract s.ctr,
    rfl, rfl, rfl, lo_eq_extract s.crcAcc, hi_eq_extract s.crcAcc, fun i hi => readReg_respBuf hi s,
    fun ho => readReg_of_not_mapped ho s⟩

end Sys2Proof
end

section
/-! PROOFS. The command words (R73) and the reserved opcodes (R74). -/

namespace Sys2Proof.Machine

/-- A command row has one word, and it is the command's opcode (R73). -/
theorem decodeCommand_encode {i : Instr} (h : i.channel = .command) : ∃ v, encode i = [v] ∧ decodeCommand v = .ok i := by
  cases i with
  | nop | crcInit | crcUpdate | start | abort => exact ⟨_, rfl, rfl⟩
  | _ => cases h

/-- What the command decoder reads is a well-formed row of the command port, and its word is the byte decoded. -/
theorem decodeCommand_ok {v : Byte} {i : Instr} (h : decodeCommand v = .ok i) : encode i = [v] ∧ i.channel = .command ∧ i.wf = true := by
  unfold decodeCommand at h
  split_ifs at h with h1 h2 h3 h4 h5 <;> cases h
  · exact ⟨by rw [h1]; rfl, rfl, rfl⟩
  · exact ⟨by rw [h2]; rfl, rfl, rfl⟩
  · exact ⟨by rw [h3]; rfl, rfl, rfl⟩
  · exact ⟨by rw [h4]; rfl, rfl, rfl⟩
  · exact ⟨by rw [h5]; rfl, rfl, rfl⟩

/-- Every opcode but the five of R73 is reserved (R74). -/
theorem decodeCommand_reserved {v : Byte} (h : v ∉ [(0x00 : Byte), 0x01, 0x02, 0x10, 0x11]) :
    decodeCommand v = .error .reservedOpcode := by
  have hne {w : Byte} (hw : w ∈ [(0x00 : Byte), 0x01, 0x02, 0x10, 0x11]) : (v = w) = False := eq_false fun he => h (he ▸ hw)
  simp (disch := decide) only [decodeCommand, hne, if_false]

/-- A host write of a reserved opcode carries no command (R74). -/
theorem fetchCommand_of_error {o : Offset} {v : Byte} {e : DecodeError} (h : decodeCommand v = .error e) : fetchCommand o v = none := by
  rw [fetchCommand, h]
  exact ite_self _

/-- The command port holds no register (R31). -/
theorem writeReg_cmd (s : State) (v : Byte) : writeReg s offCmd v = s := rfl

end Sys2Proof.Machine
end

section
/-! PROOFS. The decoder reads each frame row back from its words, whatever bytes follow. -/

namespace Sys2Proof.Machine

variable {b : List Byte}

/-- Behind the sync marker the byte at offset 2 selects the received row (R70). -/
theorem decodeReceive_of_sync (hl : 3 ≤ b.length) (h0 : at_ b 0 = 0xAA) (h1 : at_ b 1 = 0x55) :
    decodeReceive config b =
      if at_ b 2 = 0x40 then decodeAckRow config .ack b
      else if at_ b 2 = 0x04 then decodeAckRow config .retryAck b
      else if at_ b 2 = 0x80 then decodeMessageRow config b
      else if at_ b 2 = 0x4E then decodeControlRow config b
      else .error .unknownKind := by
  have hs : syncOk config b = true := (syncOk_iff b).mpr ⟨h0, h1⟩
  simp only [decodeReceive, hs, config_kinds, config_lengths, if_neg (show ¬ b.length < 3 by omega),
    if_neg (show ¬ b.length ≤ 2 by omega), Bool.not_true, Bool.false_eq_true, if_false]

/-- Behind the sync marker the byte at offset 2 selects the sent row (R50). -/
theorem decodeSend_of_sync (hl : 3 ≤ b.length) (h0 : at_ b 0 = 0xAA) (h1 : at_ b 1 = 0x55) :
    decodeSend config b =
      if at_ b 2 = 0x40 then decodeSentAckRow config b
      else if at_ b 2 = 0x80 then decodeRequestRow config b
      else .error .unknownKind := by
  have hs : syncOk config b = true := (syncOk_iff b).mpr ⟨h0, h1⟩
  simp only [decodeSend, hs, config_kinds, if_neg (show ¬ b.length < 3 by omega), Bool.not_true, Bool.false_eq_true, if_false]

theorem decodeAckRow_encode (mk : AckFrame → Instr) (kind : Byte) (f : AckFrame) (rest : List Byte) :
    decodeAckRow config mk (encodeAckFrame config kind f ++ rest) = .ok (mk f, rest) := by
  simp [decodeAckRow, encodeAckFrame_eq, config_lengths, rd16]

theorem decodeMessageRow_encode {f : MessageFrame} (h : f.payload.length = f.len.toNat) (rest : List Byte) :
    decodeMessageRow config (encodeMessageFrame config f ++ rest) = .ok (.messageResponse f, rest) := by
  have hlen : (encodeMessageFrame config f).length = 10 + f.len.toNat :=
    (Laws.EncodedLength.messageResponse f ((wf_messageResponse f).mpr h)).1
  have hpayload : span (encodeMessageFrame config f ++ rest) 8 f.len.toNat = f.payload := by
    simp [span, encodeMessageFrame_eq, ← h]
  have hpcrc : rd16 (encodeMessageFrame config f ++ rest) (8 + f.len.toNat) = f.pcrc := by
    have hpre : (encodeMessageHeader config f ++ f.payload).length = 8 + f.len.toNat := by rw [List.length_append, h]; rfl
    rw [← hpre]
    exact rd16_le16 _ _ _
  have hdrop : (encodeMessageFrame config f ++ rest).drop (10 + f.len.toNat) = rest := List.drop_left' hlen
  have h3 : at_ (encodeMessageFrame config f ++ rest) 3 = f.len := rfl
  have h4 : at_ (encodeMessageFrame config f ++ rest) 4 = 0 := rfl
  have h5 : at_ (encodeMessageFrame config f ++ rest) 5 = f.seq := rfl
  have h6 : rd16 (encodeMessageFrame config f ++ rest) 6 = f.hcrc := pair_hi_lo _
  simp only [decodeMessageRow, config_lengths, h3, h4, h5, h6, hpayload, hpcrc, hdrop, List.length_append, hlen]
  rw [if_neg (by omega), if_neg (by simp), if_neg (by omega)]

theorem decodeControlRow_encode {body : List Byte} (h : body.length = 20) (rest : List Byte) :
    decodeControlRow config (encodeControlFrame config body ++ rest) = .ok (.control body, rest) := by
  simp [decodeControlRow, encodeControlFrame_eq, config_lengths, config_kinds, span, h]

theorem decodeSentAckRow_encode (f : SentAck) (rest : List Byte) :
    decodeSentAckRow config (encodeSentAck config f ++ rest) = .ok (.responseAck f, rest) := by
  simp [decodeSentAckRow, encodeSentAck_eq, config_lengths, rd16]

theorem decodeRequestRow_encode (f : RequestFrame) (rest : List Byte) :
    decodeRequestRow config (encodeRequestFrame config f ++ rest) = .ok (.messageRequest f, rest) := by
  simp [decodeRequestRow, encodeRequestFrame_eq, config_lengths, config_kinds, rd16]

/-- The receive decoder reads each well-formed received row back from its words. -/
theorem decodeReceive_encode {i : Instr} (hc : i.channel = .receive) (hw : i.wf = true) (rest : List Byte) :
    decodeReceive config (encode i ++ rest) = .ok (i, rest) := by
  cases i with
  | ack f => exact (decodeReceive_of_sync (by simp [encode, encodeAckFrame_eq]) rfl rfl).trans (decodeAckRow_encode .ack 0x40 f rest)
  | retryAck f =>
    exact (decodeReceive_of_sync (by simp [encode, encodeAckFrame_eq]) rfl rfl).trans (decodeAckRow_encode .retryAck 0x04 f rest)
  | messageResponse f =>
    exact (decodeReceive_of_sync (by simp [encode, encodeMessageFrame_eq]) rfl rfl).trans
      (decodeMessageRow_encode ((wf_messageResponse f).mp hw) rest)
  | control body =>
    exact (decodeReceive_of_sync (by simp [encode, encodeControlFrame_eq]) rfl rfl).trans
      (decodeControlRow_encode ((wf_control body).mp hw) rest)
  | _ => cases hc

/-- The send decoder reads each sent row back from its words, whatever its CRC fields. -/
theorem decodeSend_encode {i : Instr} (hc : i.channel = .send) (rest : List Byte) :
    decodeSend config (encode i ++ rest) = .ok (i, rest) := by
  cases i with
  | responseAck f => exact (decodeSend_of_sync (by simp [encode, encodeSentAck_eq]) rfl rfl).trans (decodeSentAckRow_encode f rest)
  | messageRequest f =>
    exact (decodeSend_of_sync (by simp [encode, encodeRequestFrame_eq]) rfl rfl).trans (decodeRequestRow_encode f rest)
  | _ => cases hc

end Sys2Proof.Machine
end

section
/-! PROOFS. What each decoder answers is a row of its channel, and its words stand before the rest. -/

namespace Sys2Proof.Machine

variable {b rest : List Byte} {i : Instr}

/-- A received frame is decoded to a well-formed row: its operands have the lengths of R61 and R69. -/
theorem wf_of_decodeReceive (h : decodeReceive config b = .ok (i, rest)) : i.wf = true := by
  obtain ⟨h0, h1, ⟨-, h⟩ | ⟨-, h⟩ | ⟨h2, h⟩ | ⟨h2, h⟩⟩ := decodeReceive_ok h
  · obtain ⟨f, rfl, -⟩ := decodeAckRow_ok h0 h1 h
    rfl
  · obtain ⟨f, rfl, -⟩ := decodeAckRow_ok h0 h1 h
    rfl
  · obtain ⟨f, rfl, hl, -⟩ := decodeMessageRow_ok h0 h1 h2 h
    exact (wf_messageResponse f).mpr hl
  · obtain ⟨body, rfl, hl, -⟩ := decodeControlRow_ok h0 h1 h2 h
    exact (wf_control body).mpr hl

/-- The row RESPONSE_ACK: the frame before the rest is the ten bytes decoded (R64, R89). -/
theorem decodeSentAckRow_ok (h0 : at_ b 0 = 0xAA) (h1 : at_ b 1 = 0x55) (h2 : at_ b 2 = 0x40)
    (h : decodeSentAckRow config b = .ok (i, rest)) : ∃ f, i = .responseAck f ∧ encodeSentAck config f ++ rest = b := by
  unfold decodeSentAckRow at h
  simp only [config_lengths] at h
  split_ifs at h with hl hz
  obtain ⟨rfl, rfl⟩ := by simpa using h
  obtain ⟨h3, h4, h8, h9⟩ : at_ b 3 = 0 ∧ at_ b 4 = 0 ∧ at_ b 8 = 0xFF ∧ at_ b 9 = 0xFF := by simpa using hz
  have drops (n : Nat) (hn : n < 10) : b.drop n = at_ b n :: b.drop (n + 1) := drop_eq_at_cons (by omega)
  refine ⟨_, rfl, ?_⟩
  rw [encodeSentAck_eq]
  conv_rhs => rw [← List.drop_zero (l := b)]
  simp [drops, h0, h1, h2, h3, h4, h8, h9]

/-- The row MESSAGE_REQUEST: the frame before the rest is the eighteen bytes decoded (R66, R67). -/
theorem decodeRequestRow_ok (h0 : at_ b 0 = 0xAA) (h1 : at_ b 1 = 0x55) (h2 : at_ b 2 = 0x80)
    (h : decodeRequestRow config b = .ok (i, rest)) : ∃ f, i = .messageRequest f ∧ encodeRequestFrame config f ++ rest = b := by
  unfold decodeRequestRow at h
  simp only [config_lengths, config_kinds] at h
  split_ifs at h with hl hz
  obtain ⟨rfl, rfl⟩ := by simpa using h
  obtain ⟨h3, h4, h8, h10, h11⟩ : at_ b 3 = 0x08 ∧ at_ b 4 = 0 ∧ at_ b 8 = 0x80 ∧ at_ b 10 = 0x01 ∧ at_ b 11 = 0 := by
    simpa using hz
  have hlen : 18 ≤ b.length := Nat.le_of_not_lt hl
  have drops (n : Nat) (hn : n < 18) : b.drop n = at_ b n :: b.drop (n + 1) := drop_eq_at_cons (by omega)
  refine ⟨_, rfl, ?_⟩
  rw [encodeRequestFrame_eq]
  conv_rhs => rw [← List.drop_zero (l := b)]
  simp [drops, h0, h1, h2, h3, h4, h8, h10, h11]

/-- What the send decoder reads is a row of the send channel, and its words stand before the rest. -/
theorem encode_of_decodeSend (h : decodeSend config b = .ok (i, rest)) : i.channel = .send ∧ encode i ++ rest = b := by
  unfold decodeSend at h
  split_ifs at h with hl hs h2 h2'
  all_goals obtain ⟨h0, h1⟩ := (syncOk_iff b).mp (by simpa using hs)
  · obtain ⟨f, rfl, hb⟩ := decodeSentAckRow_ok h0 h1 h2 h
    exact ⟨rfl, hb⟩
  · obtain ⟨f, rfl, hb⟩ := decodeRequestRow_ok h0 h1 h2' h
    exact ⟨rfl, hb⟩

end Sys2Proof.Machine
end

section
/-! PROOFS. Match and mask over the five leading bytes (R77), and the rows they select where the whole frame is there. -/

namespace Sys2Proof.Machine

open Sys2Proof.Claims

/-- Two concatenations of the same widths agree part by part. -/
theorem bitVec_append_eq_iff {m n : Nat} (x x' : BitVec m) (y y' : BitVec n) : x ++ y = x' ++ y' ↔ x = x' ∧ y = y' := by
  refine ⟨fun h => ⟨?_, ?_⟩, fun ⟨hx, hy⟩ => by rw [hx, hy]⟩
  · simpa only [BitVec.extractLsb'_append_eq_left] using congrArg (BitVec.extractLsb' n m) h
  · simpa only [BitVec.extractLsb'_append_eq_right] using congrArg (BitVec.extractLsb' 0 n) h

/-- A mask over the leading bytes masks each byte by its own part (R77: offset 0 the most significant byte). -/
theorem leading_and_eq_iff (b : List Byte) (m₀ m₁ m₂ m₃ m₄ v₀ v₁ v₂ v₃ v₄ : Byte) :
    leading b &&& (m₀ ++ m₁ ++ m₂ ++ m₃ ++ m₄) = v₀ ++ v₁ ++ v₂ ++ v₃ ++ v₄ ↔
      at_ b 0 &&& m₀ = v₀ ∧ at_ b 1 &&& m₁ = v₁ ∧ at_ b 2 &&& m₂ = v₂ ∧ at_ b 3 &&& m₃ = v₃ ∧ at_ b 4 &&& m₄ = v₄ := by
  show (at_ b 0 ++ at_ b 1 ++ at_ b 2 ++ at_ b 3 ++ at_ b 4) &&& (m₀ ++ m₁ ++ m₂ ++ m₃ ++ m₄) = v₀ ++ v₁ ++ v₂ ++ v₃ ++ v₄ ↔ _
  simp only [BitVec.and_append, bitVec_append_eq_iff, and_assoc]

theorem and_allOnes_byte (x : Byte) : x &&& 0xFF = x := BitVec.and_allOnes

theorem and_zero_byte (x : Byte) : x &&& 0x00 = 0x00 := BitVec.and_zero

/-- The mask FFFFFFFFFF fixes all five leading bytes. -/
theorem leading_full_eq_iff (b : List Byte) (v₀ v₁ v₂ v₃ v₄ : Byte) :
    leading b &&& 0xFFFFFFFFFF = v₀ ++ v₁ ++ v₂ ++ v₃ ++ v₄ ↔
      at_ b 0 = v₀ ∧ at_ b 1 = v₁ ∧ at_ b 2 = v₂ ∧ at_ b 3 = v₃ ∧ at_ b 4 = v₄ :=
  (leading_and_eq_iff b 0xFF 0xFF 0xFF 0xFF 0xFF v₀ v₁ v₂ v₃ v₄).trans (by simp only [and_allOnes_byte])

/-- The mask FFFFFF00FF leaves the length byte free. -/
theorem leading_message_eq_iff (b : List Byte) (v₀ v₁ v₂ v₄ : Byte) :
    leading b &&& 0xFFFFFF00FF = v₀ ++ v₁ ++ v₂ ++ (0x00 : Byte) ++ v₄ ↔
      at_ b 0 = v₀ ∧ at_ b 1 = v₁ ∧ at_ b 2 = v₂ ∧ at_ b 4 = v₄ :=
  (leading_and_eq_iff b 0xFF 0xFF 0xFF 0x00 0xFF v₀ v₁ v₂ 0x00 v₄).trans (by simp only [and_allOnes_byte, and_zero_byte, true_and])

variable {b : List Byte}

theorem decodeAckRow_of_fixed (mk : AckFrame → Instr) (hl : 10 ≤ b.length) (h3 : at_ b 3 = 0) (h4 : at_ b 4 = 0) :
    ∃ f rest, decodeAckRow config mk b = .ok (mk f, rest) := by
  refine ⟨_, _, (if_neg ?_).trans (if_neg (by simp [h3, h4]))⟩
  simpa [config_lengths] using hl

/-- 265 bytes hold a Message frame of any length byte. -/
theorem decodeMessageRow_of_fixed (hl : 265 ≤ b.length) (h4 : at_ b 4 = 0) :
    ∃ f rest, decodeMessageRow config b = .ok (.messageResponse f, rest) := by
  have hlen := (at_ b 3).isLt
  simp only [decodeMessageRow, config_lengths]
  exact ⟨_, _, (if_neg (by omega)).trans ((if_neg (by simp [h4])).trans (if_neg (by omega)))⟩

theorem decodeControlRow_of_fixed (hl : 25 ≤ b.length) (h3 : at_ b 3 = 0x00) (h4 : at_ b 4 = 0x53) :
    ∃ body rest, decodeControlRow config b = .ok (.control body, rest) := by
  simp only [decodeControlRow, config_lengths, config_kinds]
  exact ⟨_, _, (if_neg (by omega)).trans (if_neg (by simp [h3, h4]))⟩

/-- The row ACK is read exactly where its five leading bytes stand (R64). -/
theorem decodeReceive_ack_iff (hl : 265 ≤ b.length) :
    (∃ f rest, decodeReceive config b = .ok (.ack f, rest)) ↔
      at_ b 0 = 0xAA ∧ at_ b 1 = 0x55 ∧ at_ b 2 = 0x40 ∧ at_ b 3 = 0x00 ∧ at_ b 4 = 0x00 := by
  constructor
  · rintro ⟨f, rest, h⟩
    rw [← (encode_of_decodeReceive h).2]
    exact ⟨rfl, rfl, rfl, rfl, rfl⟩
  · rintro ⟨h0, h1, h2, h3, h4⟩
    rw [decodeReceive_of_sync (by omega) h0 h1, if_pos h2]
    exact decodeAckRow_of_fixed .ack (by omega) h3 h4

/-- The row RETRY_ACK is read exactly where its five leading bytes stand (R65). -/
theorem decodeReceive_retryAck_iff (hl : 265 ≤ b.length) :
    (∃ f rest, decodeReceive config b = .ok (.retryAck f, rest)) ↔
      at_ b 0 = 0xAA ∧ at_ b 1 = 0x55 ∧ at_ b 2 = 0x04 ∧ at_ b 3 = 0x00 ∧ at_ b 4 = 0x00 := by
  constructor
  · rintro ⟨f, rest, h⟩
    rw [← (encode_of_decodeReceive h).2]
    exact ⟨rfl, rfl, rfl, rfl, rfl⟩
  · rintro ⟨h0, h1, h2, h3, h4⟩
    rw [decodeReceive_of_sync (by omega) h0 h1, h2]
    exact decodeAckRow_of_fixed .retryAck (by omega) h3 h4

/-- The row MESSAGE_RESPONSE is read exactly where its fixed leading bytes stand, whatever the length byte (R66). -/
theorem decodeReceive_messageResponse_iff (hl : 265 ≤ b.length) :
    (∃ f rest, decodeReceive config b = .ok (.messageResponse f, rest)) ↔
      at_ b 0 = 0xAA ∧ at_ b 1 = 0x55 ∧ at_ b 2 = 0x80 ∧ at_ b 4 = 0x00 := by
  constructor
  · rintro ⟨f, rest, h⟩
    rw [← (encode_of_decodeReceive h).2]
    exact ⟨rfl, rfl, rfl, rfl⟩
  · rintro ⟨h0, h1, h2, h4⟩
    rw [decodeReceive_of_sync (by omega) h0 h1, h2]
    exact decodeMessageRow_of_fixed hl h4

/-- The row CONTROL is read exactly where the sync and the marker stand (R69). -/
theorem decodeReceive_control_iff (hl : 265 ≤ b.length) :
    (∃ body rest, decodeReceive config b = .ok (.control body, rest)) ↔
      at_ b 0 = 0xAA ∧ at_ b 1 = 0x55 ∧ at_ b 2 = 0x4E ∧ at_ b 3 = 0x00 ∧ at_ b 4 = 0x53 := by
  constructor
  · rintro ⟨body, rest, h⟩
    rw [← (encode_of_decodeReceive h).2]
    exact ⟨rfl, rfl, rfl, rfl, rfl⟩
  · rintro ⟨h0, h1, h2, h3, h4⟩
    rw [decodeReceive_of_sync (by omega) h0 h1, h2]
    exact decodeControlRow_of_fixed (by omega) h3 h4

end Sys2Proof.Machine
end

section
/-! PROOFS. Decoding and encoding: both round trips, the selection of the rows, and the words of the command port (O5, O16 to O19). -/

namespace Sys2Proof

open Sys2Proof.Machine Sys2Proof.Claims

/-- Settles O16, by the channel. -/
theorem decodeOfEncodeIsTheInstruction : Obligations.DecodeOfEncodeIsTheInstruction := by
  intro i rest hw
  cases hc : i.channel with
  | command =>
    obtain ⟨v, he, hd⟩ := decodeCommand_encode hc
    simp [he, decode, hd, Except.map]
  | receive => exact decodeReceive_encode hc hw rest
  | send => exact decodeSend_encode hc rest

/-- Settles O17, by the channel. -/
theorem encodeOfDecodeIsTheWords : Obligations.EncodeOfDecodeIsTheWords := by
  intro ch b rest i h
  cases ch with
  | command =>
    cases b with
    | nil => cases h
    | cons v bs =>
      cases hd : decodeCommand v with
      | error e => simp [decode, hd, Except.map] at h
      | ok j =>
        obtain ⟨rfl, rfl⟩ : j = i ∧ bs = rest := by simpa [decode, hd, Except.map] using h
        obtain ⟨he, hc, hw⟩ := decodeCommand_ok hd
        exact ⟨by rw [he]; rfl, hc, fun _ => hw⟩
  | receive =>
    obtain ⟨hc, he⟩ := encode_of_decodeReceive h
    exact ⟨he, hc, fun _ => wf_of_decodeReceive h⟩
  | send =>
    obtain ⟨hc, he⟩ := encode_of_decodeSend h
    exact ⟨he, hc, fun hne => absurd rfl hne⟩

/-- Settles O18, row by row. -/
theorem receivedRowsAreSelectedByMask : Obligations.ReceivedRowsAreSelectedByMask := fun b hl =>
  ⟨(decodeReceive_ack_iff hl).trans (leading_full_eq_iff b 0xAA 0x55 0x40 0x00 0x00).symm,
    (decodeReceive_retryAck_iff hl).trans (leading_full_eq_iff b 0xAA 0x55 0x04 0x00 0x00).symm,
    (decodeReceive_messageResponse_iff hl).trans (leading_message_eq_iff b 0xAA 0x55 0x80 0x00).symm,
    (decodeReceive_control_iff hl).trans (leading_full_eq_iff b 0xAA 0x55 0x4E 0x00 0x53).symm⟩

/-- Settles O5. -/
theorem commandWordsAndReservedOpcodes : Obligations.CommandWordsAndReservedOpcodes := by
  refine ⟨⟨rfl, rfl, rfl, rfl, rfl⟩, fun v s rest hv => ?_⟩
  have hd := decodeCommand_reserved hv
  refine ⟨hd, ?_⟩
  calc step { s with agenda := .hostWrite 0x0000 v :: rest }
      = .next (writeReg { s with agenda := rest } offCmd v) := step_of_registerWrite rfl (fetchCommand_of_error hd)
    _ = .next { s with agenda := rest } := by rw [writeReg_cmd]

/-- Settles O19: the words are the encodings of these instructions. -/
theorem writtenOutWordsDecode : Obligations.WrittenOutWordsDecode :=
  ⟨decodeOfEncodeIsTheInstruction .start [] rfl, decodeOfEncodeIsTheInstruction .crcUpdate [] rfl,
    decodeOfEncodeIsTheInstruction (.ack { seq := 0x05, hcrc := 0xBAF9, trailer0 := 0xFF, trailer1 := 0xFF }) [] rfl,
    decodeSend_encode (i := .messageRequest { seq := 0x05, hcrc := 0xA0FC, targetClass := 0x02, instanceId := 0x01, counter := 0x0007,
                                              requestCode := 0x03, pcrc := 0x2ABB }) rfl []⟩

end Sys2Proof
end

section
/-! PROOFS. The checksum is the rule's own algorithm (R80, R81), and no single flipped bit gets past it (R86). -/

namespace Sys2Proof.Machine

open Sys2Proof.Claims

/-! ### The algorithm -/

/-- One shift of the register is one round of R81's loop. -/
theorem crcShift_eq_shift81 (c : Half) : crcShift config.crc c = shift81 c := crcShift_config c

theorem crcShifts_eq_shift81_iterate (n : Nat) (c : Half) : crcShifts config.crc n c = shift81^[n] c := by
  induction n generalizing c with
  | zero => rfl
  | succ n ih => rw [crcShifts, crcShift_eq_shift81, ih, Function.iterate_succ_apply]

/-- The model's step takes the byte in at the top of the register, as R81 does. -/
theorem crcStep_eq_step81 (c : Half) (x : Byte) : crcStep config.crc c x = step81 c x := by
  rw [crcStep, crcInput_config, pair_eq_append, crcShifts_eq_shift81_iterate, step81]

theorem crc16_eq_crc80 (b : List Byte) : crc16 b = crc80 b := by
  have hstep : crcStep config.crc = step81 := funext₂ crcStep_eq_step81
  rw [crc16_eq, hstep, crc80]

/-! ### Single-bit errors -/

/-- Flipping one bit of a value changes it. -/
theorem xor_bit_ne {w k : Nat} (h : k < w) (v : BitVec w) : v ^^^ (1#w <<< k) ≠ v := by
  intro he
  have hbit := congrArg (fun u => u.getLsbD k) he
  simp [h] at hbit

/-- A CRC field fails exactly where it is not the CRC of the span (R82). -/
theorem crcOk_eq_false_iff (b : List Byte) (c : Half) : crcOk config.crc b (lo c) (hi c) = false ↔ c ≠ crc16 b := by
  rw [← Bool.not_eq_true, crcOk_iff, pair_hi_lo, crcOf_config]

/-- Changing one byte of a span changes its CRC. -/
theorem crc16_set_ne {b : List Byte} {i : Nat} (hi : i < b.length) {x : Byte} (hx : x ≠ at_ b i) :
    crc16 (b.set i x) ≠ crc16 b := by
  have hb : b = b.take i ++ at_ b i :: b.drop (i + 1) := by rw [← drop_eq_at_cons hi, List.take_append_drop]
  rw [List.set_eq_take_append_cons_drop, if_pos hi]
  conv_rhs => rw [hb]
  exact crc16_ne_of_byte _ _ hx

end Sys2Proof.Machine
end

section
/-! PROOFS. The host's checksum (R83, R84): each write of the script as one step, and the bytes folded in one after the other. -/

namespace Sys2Proof.Machine

/-- CRC_INIT (R83). -/
theorem exec_crcInit (s : State) : exec .crcInit s = .next { s with crcAcc := 0xFFFF } := rfl

/-- CRC_UPDATE (R84). -/
theorem exec_crcUpdate (s : State) : exec .crcUpdate s = .next { s with crcAcc := crcStep config.crc s.crcAcc s.crcData } := rfl

/-- The host's two writes for each byte: CRC_DATA, then CRC_UPDATE. -/
def foldWrites (b : List Byte) : List Event :=
  b.flatMap fun x => [.hostWrite 0x000C x, .hostWrite 0x0000 0x02]

theorem crcScript_eq (b : List Byte) : Claims.crcScript b = .hostWrite 0x0000 0x01 :: foldWrites b := rfl

theorem foldWrites_cons (x : Byte) (b : List Byte) :
    foldWrites (x :: b) = .hostWrite 0x000C x :: .hostWrite 0x0000 0x02 :: foldWrites b := rfl

variable (s : State) (rest : List Event)

/-- A host write of the opcode 0x01 to CMD. -/
theorem step_write_crcInit :
    step { s with agenda := .hostWrite 0x0000 0x01 :: rest } = .next { s with crcAcc := 0xFFFF, agenda := rest } :=
  (stepRunsCommand s 0x01 .crcInit rest rfl).trans (exec_crcInit _)

/-- A host write of the opcode 0x02 to CMD. -/
theorem step_write_crcUpdate :
    step { s with agenda := .hostWrite 0x0000 0x02 :: rest }
      = .next { s with crcAcc := crcStep config.crc s.crcAcc s.crcData, agenda := rest } :=
  (stepRunsCommand s 0x02 .crcUpdate rest rfl).trans (exec_crcUpdate _)

/-- A host write of CRC_DATA (R43). -/
theorem step_write_crcData (x : Byte) :
    step { s with agenda := .hostWrite 0x000C x :: rest } = .next { s with crcData := x, agenda := rest } :=
  step_write_of_ne_cmd (o := offCrcData) (by decide) s x rest

/-- Two writes fold one byte into CRC_ACC and leave it in CRC_DATA. -/
theorem run_foldByte (n : Nat) (x : Byte) :
    Sys2Proof.core.run (n + 2) { s with agenda := .hostWrite 0x000C x :: .hostWrite 0x0000 0x02 :: rest }
      = Sys2Proof.core.run n { s with crcAcc := crcStep config.crc s.crcAcc x, crcData := x, agenda := rest } := by
  rw [run_next (step_write_crcData s _ x), run_next (step_write_crcUpdate { s with crcData := x } rest)]

/-- The writes fold the bytes into whatever CRC_ACC holds; the last byte stays in CRC_DATA. -/
theorem run_foldWrites (b : List Byte) :
    Sys2Proof.core.run (2 * b.length) { s with agenda := foldWrites b ++ rest }
      = Host.Outcome.next
        { s with crcAcc := b.foldl (crcStep config.crc) s.crcAcc, crcData := b.getLast?.getD s.crcData, agenda := rest } := by
  induction b generalizing s with
  | nil => rfl
  | cons x b ih =>
    rw [foldWrites_cons, List.getLast?_cons, Option.getD_some]
    exact (run_foldByte s (foldWrites b ++ rest) (2 * b.length) x).trans
      (ih { s with crcAcc := crcStep config.crc s.crcAcc x, crcData := x })

end Sys2Proof.Machine
end

section
/-! PROOFS. The Checksum Unit: its two commands, its algorithm, what it detects, and the host's use of it (O1, O2, O7 to O9). -/

namespace Sys2Proof

open Sys2Proof.Machine Sys2Proof.Claims

/-- Settles O1. -/
theorem nopAndCrcInitEffects : Obligations.NopAndCrcInitEffects := fun s => ⟨rfl, exec_crcInit s⟩

/-- Settles O2. -/
theorem crcUpdateFoldsDataByte : Obligations.CrcUpdateFoldsDataByte := fun s => by
  rw [exec_crcUpdate, crcStep_eq_step81]

/-- Settles O7. The check value is R79's. -/
theorem checksumIsTheAlgorithm : Obligations.ChecksumIsTheAlgorithm :=
  ⟨crc16_eq_crc80, crc16_eq [], by decide +kernel⟩

/-- Settles O8: a flipped bit is a changed byte of the span, or a changed CRC field. -/
theorem checksumDetectsSingleBitErrors : Obligations.ChecksumDetectsSingleBitErrors := by
  refine ⟨crcOk_self config.crc, fun b i k hi hk => ?span, fun b k hk => ?field⟩
  case span => exact (crcOk_eq_false_iff _ _).mpr (crc16_set_ne hi (xor_bit_ne hk _)).symm
  case field => exact (crcOk_eq_false_iff _ _).mpr (xor_bit_ne hk _)

/-- Settles O9, by induction on the bytes behind CRC_INIT. -/
theorem hostFoldsBytesIntoChecksum : Obligations.HostFoldsBytesIntoChecksum := by
  intro s b rest
  rw [crcScript_eq, List.cons_append, Nat.add_comm, run_next (step_write_crcInit s _), crc16_eq]
  exact run_foldWrites { s with crcAcc := 0xFFFF } rest b

end Sys2Proof
end

section
/-! PROOFS. The frames of the rules byte by byte, and the encoders of the Frame Codec (R88, R89). -/

namespace Sys2Proof.Machine

open Sys2Proof.Claims

/-! ### The rules' forms in the model's words -/

theorem le9_eq_le16 (v : Half) : le9 v = le16 v := by rw [le9, le16, lo_eq_extract, hi_eq_extract]

/-- R64 and R65, byte by byte. -/
theorem ack64_eq (kind seq : Byte) : ack64 kind seq =
    [0xAA, 0x55, kind, 0x00, 0x00, seq, lo (crc16 [kind, 0x00, 0x00, seq]), hi (crc16 [kind, 0x00, 0x00, seq]), 0xFF, 0xFF] := by
  rw [ack64, le9_eq_le16, crc16_eq_crc80]; rfl

/-- R66, byte by byte. -/
theorem header66_eq (len seq : Byte) : header66 len seq =
    [0xAA, 0x55, 0x80, len, 0x00, seq, lo (crc16 [0x80, len, 0x00, seq]), hi (crc16 [0x80, len, 0x00, seq])] := by
  rw [header66, le9_eq_le16, crc16_eq_crc80]; rfl

/-- The payload of R68 is the echo header and the fields behind it. -/
theorem payload68_eq (ctr : Half) (tc iid rc : Byte) (fields : List Byte) :
    payload68 ctr tc iid rc fields = echoHeader config ctr tc iid rc ++ fields := by
  rw [payload68, ← lo_eq_extract, ← hi_eq_extract]; rfl

/-- The eight bytes of the echo alone. -/
theorem payload68_nil (ctr : Half) (tc iid rc : Byte) : payload68 ctr tc iid rc [] = echoHeader config ctr tc iid rc := by
  rw [payload68_eq, List.append_nil]

/-! ### The encoders -/

theorem encodeRequest_eq_request88 (seq : Byte) (ctr : Half) (tc iid rc : Byte) :
    encodeRequest config seq ctr tc iid rc = request88 seq ctr tc iid rc := by
  simp only [request88, le9_eq_le16, ← crc16_eq_crc80, ← lo_eq_extract, ← hi_eq_extract]
  rfl

theorem encodeAck_eq_ack64 (seq : Byte) : encodeAck config seq = ack64 0x40 seq := (ack64_eq 0x40 seq).symm

end Sys2Proof.Machine
end

section
/-! PROOFS. What `decode_ack` answers on each byte sequence (R91, R92). -/

namespace Sys2Proof.Machine

open Sys2Proof.Claims

/-- A frame of R64's form is told by its kind, and an ACK then by its sequence byte. -/
theorem decodeAck_ack64 (kind q expected : Byte) : decodeAck config (ack64 kind q) expected =
    if kind = 0x40 then (if q = expected then .ok false else .error .sequenceMismatch)
    else if kind = 0x04 then .ok true else .error .frameCorrupt := by
  rw [ack64_eq, decodeAck_ten, if_pos ⟨rfl, rfl, rfl, rfl, rfl, rfl, rfl, rfl⟩]

variable (b : List Byte) (expected : Byte)

/-- What is not corrupt is an ACK or a retry-ACK, byte for byte. -/
theorem eq_ack64_of_decodeAck_ne_frameCorrupt (h : decodeAck config b expected ≠ .error .frameCorrupt) :
    (∃ q, b = ack64 0x40 q) ∨ ∃ q, b = ack64 0x04 q := by
  by_cases hl : b.length = 10
  · obtain ⟨b0, b1, b2, b3, b4, b5, b6, b7, b8, b9, rfl⟩ := eq_ten hl
    rw [decodeAck_ten] at h
    split at h
    next hf =>
      obtain ⟨rfl, rfl, rfl, rfl, rfl, rfl, rfl, rfl⟩ := hf
      by_cases h40 : b2 = 0x40
      · exact .inl ⟨b5, by rw [ack64_eq, h40]⟩
      · have h04 : b2 = 0x04 := by_contra fun h04 => h (by rw [if_neg h40, if_neg h04])
        exact .inr ⟨b5, by rw [ack64_eq, h04]⟩
    next => exact absurd rfl h
  · exact absurd (decodeAck_of_length hl expected) h

theorem decodeAck_ok_false_iff : decodeAck config b expected = .ok false ↔ b = ack64 0x40 expected := by
  refine ⟨fun h => ?_, fun h => by simp [h, decodeAck_ack64]⟩
  obtain ⟨q, rfl⟩ | ⟨q, rfl⟩ := eq_ack64_of_decodeAck_ne_frameCorrupt b expected (by simp [h])
  · obtain rfl : q = expected := by simpa [decodeAck_ack64] using h
    rfl
  · simp [decodeAck_ack64] at h

theorem decodeAck_ok_true_iff : decodeAck config b expected = .ok true ↔ ∃ q, b = ack64 0x04 q := by
  refine ⟨fun h => ?_, fun ⟨q, h⟩ => by simp [h, decodeAck_ack64]⟩
  obtain ⟨q, rfl⟩ | hb := eq_ack64_of_decodeAck_ne_frameCorrupt b expected (by simp [h])
  · by_cases hq : q = expected <;> simp [decodeAck_ack64, hq] at h
  · exact hb

theorem decodeAck_sequenceMismatch_iff :
    decodeAck config b expected = .error .sequenceMismatch ↔ ∃ q, q ≠ expected ∧ b = ack64 0x40 q := by
  refine ⟨fun h => ?_, fun ⟨q, hq, h⟩ => by simp [h, hq, decodeAck_ack64]⟩
  obtain ⟨q, rfl⟩ | ⟨q, rfl⟩ := eq_ack64_of_decodeAck_ne_frameCorrupt b expected (by simp [h])
  · exact ⟨q, by simpa [decodeAck_ack64] using h, rfl⟩
  · simp [decodeAck_ack64] at h

theorem decodeAck_frameCorrupt_iff :
    decodeAck config b expected = .error .frameCorrupt ↔ ∀ q, b ≠ ack64 0x40 q ∧ b ≠ ack64 0x04 q := by
  refine ⟨fun h q => ⟨?ack, ?retryAck⟩, fun h => ?corrupt⟩
  case ack =>
    rintro rfl
    by_cases hq : q = expected <;> simp [decodeAck_ack64, hq] at h
  case retryAck =>
    rintro rfl
    simp [decodeAck_ack64] at h
  case corrupt =>
    by_contra hc
    obtain ⟨q, hb⟩ | ⟨q, hb⟩ := eq_ack64_of_decodeAck_ne_frameCorrupt b expected hc
    · exact (h q).1 hb
    · exact (h q).2 hb

variable {b expected}

/-- A frame of another kind than ACK and retry-ACK is corrupt (R91). -/
theorem decodeAck_of_other_kind (h40 : at_ b 2 ≠ 0x40) (h04 : at_ b 2 ≠ 0x04) : decodeAck config b expected = .error .frameCorrupt :=
  (decodeAck_frameCorrupt_iff b expected).mpr fun q => ⟨fun hb => h40 (by rw [hb]; rfl), fun hb => h04 (by rw [hb]; rfl)⟩

/-- The ten bytes of a received row are a frame of R64's form exactly where the row's CRC and trailer are the rule's. -/
theorem encodeAckFrame_eq_ack64_iff (kind kind' q : Byte) (f : AckFrame) :
    encodeAckFrame config kind f = ack64 kind' q ↔ kind = kind' ∧ f.seq = q ∧ ackValid kind f := by
  rw [encodeAckFrame_eq, ack64_eq]
  simp only [List.cons.injEq, true_and, and_true, ackValid, half_eq_iff f.hcrc]
  constructor
  · rintro ⟨rfl, rfl, hlo, hhi, h0, h1⟩
    exact ⟨rfl, rfl, ⟨hlo, hhi⟩, h0, h1⟩
  · rintro ⟨rfl, rfl, ⟨hlo, hhi⟩, h0, h1⟩
    exact ⟨rfl, rfl, hlo, hhi, h0, h1⟩

/-- A received row with another CRC or trailer is corrupt. -/
theorem decodeAck_of_not_ackValid {kind : Byte} {f : AckFrame} (h : ¬ ackValid kind f) :
    decodeAck config (encodeAckFrame config kind f) expected = .error .frameCorrupt :=
  (decodeAck_frameCorrupt_iff _ expected).mpr fun q =>
    ⟨fun hb => h ((encodeAckFrame_eq_ack64_iff kind 0x40 q f).mp hb).2.2,
      fun hb => h ((encodeAckFrame_eq_ack64_iff kind 0x04 q f).mp hb).2.2⟩

end Sys2Proof.Machine
end

section
/-! PROOFS. The header check of a Message frame (R90), and what `decode_message` answers on each byte sequence (R93 to R95). -/

namespace Sys2Proof.Machine

open Sys2Proof.Claims

/-- Eight bytes pass the header check exactly where they are the header of their own length and sequence bytes. -/
theorem msgHeaderOk_iff_header66 (b0 b1 b2 b3 b4 b5 b6 b7 : Byte) (rest : List Byte) :
    msgHeaderOk config (b0 :: b1 :: b2 :: b3 :: b4 :: b5 :: b6 :: b7 :: rest) = true ↔
      [b0, b1, b2, b3, b4, b5, b6, b7] = header66 b3 b5 := by
  rw [msgHeaderOk_eight, header66_eq]
  simp only [List.cons.injEq, true_and, and_true]
  constructor
  · rintro ⟨rfl, rfl, rfl, rfl, h6, h7⟩
    exact ⟨rfl, rfl, rfl, rfl, h6, h7⟩
  · rintro ⟨rfl, rfl, rfl, rfl, h6, h7⟩
    exact ⟨rfl, rfl, rfl, rfl, h6, h7⟩

theorem msgHeaderOk_header66 (len q : Byte) : msgHeaderOk config (header66 len q) = true := by
  rw [header66_eq, msgHeaderOk_iff_header66, header66_eq]

/-- A Message frame with a good header and the length it declares: what R93 has checked when it comes to the payload. -/
def framed (q : Byte) (payload : List Byte) (pcrc : Half) : List Byte :=
  header66 (BitVec.ofNat 8 payload.length) q ++ payload ++ le9 pcrc

theorem message66_eq_framed (q : Byte) (payload : List Byte) : message66 q payload = framed q payload (crc16 payload) := by
  rw [message66, framed, crc16_eq_crc80]

theorem wrongEcho_iff (b echo : List Byte) : wrongEcho b echo ↔
    ∃ q payload pcrc, payload.length ≤ 255 ∧ b = framed q payload pcrc ∧ payload.take 8 ≠ echo := Iff.rfl

/-- A request is a Message frame with the request payload (R88). -/
theorem encodeRequest_eq_framed (seq : Byte) (ctr : Half) (tc iid rc : Byte) : encodeRequest config seq ctr tc iid rc =
    framed seq (requestPayload config ctr tc iid rc) (crc16 (requestPayload config ctr tc iid rc)) := by
  rw [framed, header66_eq, le9_eq_le16]; rfl

/-- No request payload is an echo: the byte at offset 2 differs (R67, R68). -/
theorem requestPayload_ne_echoHeader (ctr ctr' : Half) (tc iid rc tc' iid' rc' : Byte) :
    requestPayload config ctr tc iid rc ≠ echoHeader config ctr' tc' iid' rc' := by
  simp [requestPayload, echoHeader]

/-- A payload begins with the echo exactly where it is the echo and what stands behind it. -/
theorem take_eq_echoHeader_iff (payload : List Byte) (ctr : Half) (tc iid rc : Byte) :
    payload.take 8 = echoHeader config ctr tc iid rc ↔ payload = payload68 ctr tc iid rc (payload.drop 8) := by
  rw [payload68_eq]
  constructor
  · intro h
    rw [← h, List.take_append_drop]
  · intro h
    rw [h]
    rfl

variable {b payload : List Byte} {ctr : Half} {tc iid rc : Byte}

/-- A payload too short for the echo is a payload with another echo (R95), and the CRC behind the payload does not come into it. -/
theorem payload_echo_check (payload : List Byte) (pcrc : Half) :
    payload.length < 8 ∨ (payload ++ le16 pcrc).take 8 ≠ echoHeader config ctr tc iid rc ↔
      payload.take 8 ≠ echoHeader config ctr tc iid rc := by
  rcases Nat.lt_or_ge payload.length 8 with hs | hl
  · have hne : payload.take 8 ≠ echoHeader config ctr tc iid rc := by
      intro he
      have hlen := congrArg List.length he
      simp [echoHeader] at hlen
      omega
    simp [hs, hne]
  · rw [List.take_append_of_le_length hl, or_iff_right (Nat.not_lt.mpr hl)]

/-- The payload checks of R93, in the order of R94. -/
theorem decodeMessage_framed (h : payload.length ≤ 255) (q : Byte) (pcrc : Half) :
    decodeMessage config (framed q payload pcrc) ctr tc iid rc =
      if payload.take 8 ≠ echoHeader config ctr tc iid rc then .error .payloadMismatch
      else if pcrc = crc16 payload then .ok { echoSeq := q, fields := payload.drop 8 }
      else .error .frameCorrupt := by
  have hlen : (BitVec.ofNat 8 payload.length).toNat = payload.length := by
    rw [BitVec.toNat_ofNat, Nat.mod_eq_of_lt (by omega)]
  have hhdr := msgHeaderOk_header66 (BitVec.ofNat 8 payload.length) q
  have hpcrc : rd16 (payload ++ le16 pcrc) payload.length = pcrc := by simpa using rd16_le16 payload pcrc []
  rw [header66_eq] at hhdr
  rw [framed, header66_eq, le9_eq_le16, List.append_assoc]
  refine (decodeMessage_eight (body := payload ++ le16 pcrc) ..).trans ?_
  rw [hlen, if_pos ⟨hhdr, by simp⟩, hpcrc, List.take_left]
  simp only [payload_echo_check]

theorem decodeMessage_of_length (h : b.length < 8) : decodeMessage config b ctr tc iid rc = .error .frameCorrupt :=
  if_pos (.inl h)

/-- What is no Message frame with a good header and the length it declares is corrupt. -/
theorem decodeMessage_corrupt_or_framed (b : List Byte) (ctr : Half) (tc iid rc : Byte) :
    decodeMessage config b ctr tc iid rc = .error .frameCorrupt ∨
      ∃ q payload pcrc, payload.length ≤ 255 ∧ b = framed q payload pcrc := by
  rcases Nat.lt_or_ge b.length 8 with hs | hl
  · exact .inl (decodeMessage_of_length hs)
  obtain ⟨b0, b1, b2, b3, b4, b5, b6, b7, body, rfl⟩ := eq_eight_append hl
  by_cases hf : msgHeaderOk config [b0, b1, b2, b3, b4, b5, b6, b7] = true ∧ body.length = b3.toNat + 2
  · obtain ⟨hhdr, hbody⟩ := hf
    have hlen : (body.take b3.toNat).length = b3.toNat := by rw [List.length_take]; omega
    refine .inr ⟨b5, body.take b3.toNat, rd16 body b3.toNat, by have := b3.isLt; omega, ?_⟩
    rw [framed, hlen, BitVec.ofNat_toNat, BitVec.setWidth_eq, ← (msgHeaderOk_iff_header66 ..).mp hhdr, le9_eq_le16,
      List.append_assoc, ← eq_take_append_le16 hbody]
    rfl
  · exact .inl ((decodeMessage_eight ..).trans (if_neg hf))

theorem decodeMessage_ok_iff (b : List Byte) (ctr : Half) (tc iid rc q : Byte) (fields : List Byte) :
    decodeMessage config b ctr tc iid rc = .ok { echoSeq := q, fields := fields } ↔
      fields.length ≤ 247 ∧ b = message66 q (payload68 ctr tc iid rc fields) := by
  constructor
  · intro h
    obtain hc | ⟨q', payload, pcrc, hl, rfl⟩ := decodeMessage_corrupt_or_framed b ctr tc iid rc
    · simp [hc] at h
    · rw [decodeMessage_framed hl] at h
      split_ifs at h with he hp
      obtain ⟨rfl, rfl⟩ : q' = q ∧ payload.drop 8 = fields := by simpa using h
      refine ⟨by rw [List.length_drop]; omega, ?_⟩
      rw [message66_eq_framed, ← (take_eq_echoHeader_iff ..).mp (not_not.mp he), hp]
  · rintro ⟨hl, rfl⟩
    have hlen : (payload68 ctr tc iid rc fields).length ≤ 255 := by simp [payload68]; omega
    have hecho : (payload68 ctr tc iid rc fields).take 8 = echoHeader config ctr tc iid rc :=
      (take_eq_echoHeader_iff ..).mpr rfl
    rw [message66_eq_framed, decodeMessage_framed hlen, if_neg (not_not.mpr hecho), if_pos rfl]
    rfl

theorem decodeMessage_payloadMismatch_iff (b : List Byte) (ctr : Half) (tc iid rc : Byte) :
    decodeMessage config b ctr tc iid rc = .error .payloadMismatch ↔ wrongEcho b (payload68 ctr tc iid rc []) := by
  rw [wrongEcho_iff, payload68_nil]
  constructor
  · intro h
    obtain hc | ⟨q, payload, pcrc, hl, rfl⟩ := decodeMessage_corrupt_or_framed b ctr tc iid rc
    · simp [hc] at h
    · rw [decodeMessage_framed hl] at h
      split_ifs at h with he hp
      · exact ⟨q, payload, pcrc, hl, rfl, he⟩
      · simp at h
  · rintro ⟨q, payload, pcrc, hl, rfl, he⟩
    rw [decodeMessage_framed hl, if_pos he]

/-- FrameCorrupt is the answer where neither of the other two is (R93). -/
theorem decodeMessage_frameCorrupt_iff (b : List Byte) (ctr : Half) (tc iid rc : Byte) :
    decodeMessage config b ctr tc iid rc = .error .frameCorrupt ↔
      decodeMessage config b ctr tc iid rc ≠ .error .payloadMismatch ∧ ∀ r, decodeMessage config b ctr tc iid rc ≠ .ok r := by
  cases h : decodeMessage config b ctr tc iid rc with
  | ok r => simp
  | error e => obtain rfl | rfl := decodeMessage_error h <;> simp

/-- The decoder of responses takes no request, its own or another's, for a response. -/
theorem decodeMessage_encodeRequest (seq : Byte) (ctr ctr' : Half) (tc iid rc tc' iid' rc' : Byte) :
    decodeMessage config (encodeRequest config seq ctr tc iid rc) ctr' tc' iid' rc' = .error .payloadMismatch := by
  have hl : (requestPayload config ctr tc iid rc).length ≤ 255 := by simp [requestPayload]
  rw [encodeRequest_eq_framed, decodeMessage_framed hl]
  exact if_pos (requestPayload_ne_echoHeader ctr ctr' tc iid rc tc' iid' rc')

end Sys2Proof.Machine
end

section
/-! PROOFS. The ack read of a received row that is no good ACK (R100, R112, R115). -/

namespace Sys2Proof.Machine

open Sys2Proof.Claims

/-- Where an ACK is awaited, ten bytes that `decode_ack` refuses end the exchange, and what stands behind them stays in RX. -/
theorem receive_of_decodeAck_error {s : State} {b : List Byte} {e : FrameError} (hs : awaitsAck s) (hl : 10 ≤ b.length)
    (he : decodeAck config (b.take 10) s.seq = .error e) :
    receive b s = .next (finish { s with rx := b.drop 10 ++ s.rx } (codeOf e)) := by
  have htake : (b ++ s.rx).take 10 = b.take 10 := List.take_append_of_le_length hl
  have hdrop : rxDrop (pushFront b s) 10 = { s with rx := b.drop 10 ++ s.rx } := by
    rw [rxDrop, pushFront_rx, List.drop_append_of_le_length hl]; rfl
  have hturn (k : State → State) :
      ackTurn k (pushFront b s) = .stepped (finish { s with rx := b.drop 10 ++ s.rx } (codeOf e)) := by
    simp only [ackTurn, readExact, config_lengths, pushFront_rx, htake, hdrop, he]
    rw [if_neg (by rw [List.length_append]; omega)]
  obtain hs | hs := hs <;> simp only [receive, readTurn, pushFront_state, hs, hturn, Turn.outcome]

/-- So does a whole row of another kind than ACK and retry-ACK. -/
theorem receive_of_other_kind {s : State} {b : List Byte} (hs : awaitsAck s) (hl : 10 ≤ b.length) (h40 : at_ b 2 ≠ 0x40)
    (h04 : at_ b 2 ≠ 0x04) : receive b s = .next (finish { s with rx := b.drop 10 ++ s.rx } .frameCorrupt) := by
  have hkind : at_ (b.take 10) 2 = at_ b 2 := at_take (by omega)
  exact receive_of_decodeAck_error hs hl (decodeAck_of_other_kind (by rwa [hkind]) (by rwa [hkind]))

/-- An ACK or retry-ACK with another CRC or trailer is ten bytes, and all of them are taken. -/
theorem receive_of_not_ackValid {s : State} {kind : Byte} {f : AckFrame} (hs : awaitsAck s) (hf : ¬ ackValid kind f) :
    receive (encodeAckFrame config kind f) s = .next (finish s .frameCorrupt) :=
  receive_of_decodeAck_error (b := encodeAckFrame config kind f) hs (Nat.le_refl 10) (decodeAck_of_not_ackValid hf)

theorem not_awaitsBody_of_awaitsAck {s : State} (hs : awaitsAck s) : ¬ Safety.awaitsBody s := by
  obtain hs | hs := hs <;> simp [Safety.awaitsBody, hs]

end Sys2Proof.Machine
end

section
/-! PROOFS. The Frame Codec: its encoders, its decoders answer by answer, and the ack read's refusals (O10 to O14, O24). -/

namespace Sys2Proof

open Sys2Proof.Machine Sys2Proof.Claims

/-- Settles O10. -/
theorem encodersGiveTheWireBytes : Obligations.EncodersGiveTheWireBytes := ⟨encodeRequest_eq_request88, encodeAck_eq_ack64⟩

/-- Settles O11: the request's fields are read off its bytes; the ACK is the one frame `decode_ack` accepts for its sequence. -/
theorem encodedFieldsAreRecovered : Obligations.EncodedFieldsAreRecovered := by
  refine ⟨fun seq ctr tc iid rc => ?_, fun seq => (decodeAck_ok_false_iff _ seq).mpr (encodeAck_eq_ack64 seq)⟩
  exact ⟨rfl, rfl, rfl, rfl, pair_hi_lo ctr, crcOk_self config.crc (requestHeader config seq),
    crcOk_self config.crc (requestPayload config ctr tc iid rc)⟩

/-- Settles O12. -/
theorem decodeAckAnswersExactly : Obligations.DecodeAckAnswersExactly := fun b expected =>
  ⟨decodeAck_ok_false_iff b expected, decodeAck_ok_true_iff b expected, decodeAck_sequenceMismatch_iff b expected,
    decodeAck_frameCorrupt_iff b expected⟩

/-- Settles O13: the header that passes is that of the length and sequence bytes at offsets 3 and 5. -/
theorem messageHeaderCheckExactly : Obligations.MessageHeaderCheckExactly := by
  intro h hl
  obtain ⟨b0, b1, b2, b3, b4, b5, b6, b7, rest, rfl⟩ := eq_eight_append hl
  rw [msgHeaderOk_iff_header66]
  refine ⟨fun hh => ⟨b3, b5, hh⟩, fun ⟨len, seq, hh⟩ => ?_⟩
  obtain rfl : b3 = len := congrArg (at_ · 3) hh
  obtain rfl : b5 = seq := congrArg (at_ · 5) hh
  exact hh

/-- Settles O14: FrameCorrupt is what is left beside the other two answers. -/
theorem decodeMessageAnswersExactly : Obligations.DecodeMessageAnswersExactly := by
  refine ⟨fun b ctr tc iid rc => ⟨decodeMessage_ok_iff b ctr tc iid rc, decodeMessage_payloadMismatch_iff b ctr tc iid rc, ?_⟩,
    decodeMessage_encodeRequest⟩
  rw [decodeMessage_frameCorrupt_iff, ne_eq, decodeMessage_payloadMismatch_iff]
  refine and_congr_right fun _ => ⟨fun h q fields hl hb => ?_, fun h r hr => ?_⟩
  · exact h _ ((decodeMessage_ok_iff ..).mpr ⟨hl, hb⟩)
  · obtain ⟨hl, hb⟩ := (decodeMessage_ok_iff ..).mp hr
    exact h _ _ hl hb

/-- Settles O24: each row's words at the head of RX, at least ten bytes of them, are refused by `decode_ack`. -/
theorem ackReadRefusesOtherFrames : Obligations.AckReadRefusesOtherFrames := by
  intro s hs
  have hb := not_awaitsBody_of_awaitsAck hs
  refine ⟨fun f hf => receive_of_not_ackValid hs hf, fun f hf => receive_of_not_ackValid hs hf, fun f hw => ?message,
    fun body hw => ?control⟩
  case message =>
    have hl := (Laws.EncodedLength.messageResponse f hw).1
    rw [exec_received rfl hb]
    exact receive_of_other_kind hs (by omega) (show (0x80 : Byte) ≠ 0x40 by decide) (show (0x80 : Byte) ≠ 0x04 by decide)
  case control =>
    have hl := Laws.EncodedLength.control body hw
    rw [exec_received rfl hb]
    exact receive_of_other_kind hs (by omega) (show (0x4E : Byte) ≠ 0x40 by decide) (show (0x4E : Byte) ≠ 0x04 by decide)

end Sys2Proof
end

section
/-! PROOFS. The drain (R103 to R105): what `classify` answers on each byte sequence, and the drain step for each answer. -/

namespace Sys2Proof.Machine

open Sys2Proof.Claims

/-! ### What stands at the head of RX -/

/-- `classify` with the numbers of R6 put in. -/
theorem classify_eq (retryAsAck : Bool) (b : List Byte) : classify { config with drainRetryAsAck := retryAsAck } b =
    if b.length < 3 then .need 3
    else if !syncOk config b then .unknown
    else if at_ b 2 = 0x40 then .len 10
    else if at_ b 2 = 0x04 then (if retryAsAck then .len 10 else .unknown)
    else if at_ b 2 = 0x80 then (if b.length < 4 then .need 4 else .len (10 + (at_ b 3).toNat))
    else if b.length ≤ 2 then .need 3
    else if at_ b 2 = 0x4E then
      (if b.length < 5 then .need 5 else if at_ b 3 = 0x00 ∧ at_ b 4 = 0x53 then .len 25 else .unknown)
    else .unknown := rfl

/-- `classify` is R103's own text: fewer than three bytes, then as many as each kind looks at. -/
theorem classify_eq_classify103 (retryAsAck : Bool) (b : List Byte) :
    classify { config with drainRetryAsAck := retryAsAck } b = classify103 retryAsAck b := by
  have hsync : (!syncOk config b) = true ↔ at_ b 0 ≠ 0xAA ∨ at_ b 1 ≠ 0x55 := by
    rw [Bool.not_eq_true', ← Bool.not_eq_true, syncOk_iff, not_and_or]
  simp only [classify_eq, hsync]
  match b with
  | [] | [_] | [_, _] => rfl
  | [b0, b1, b2] | [b0, b1, b2, b3] => simp [classify103]
  | b0 :: b1 :: b2 :: b3 :: b4 :: rest =>
    have hlen : ∀ n < 6, ¬ rest.length + 5 < n := by omega
    simp [classify103, hlen, Nat.add_assoc]

/-- With the spec's DRAIN_RETRY_AS_ACK. -/
theorem classify_config (b : List Byte) : classify config b = classify103 false b := classify_eq_classify103 false b

/-- The empty sequence is no whole frame. -/
theorem ne_nil_of_classify {b : List Byte} {n : Nat} (h : classify config b = .len n) : b ≠ [] := by
  rintro rfl
  cases h

/-- Every well-formed received row but the retry-ACK is classified as a frame of its own length (R103). -/
theorem classify_encode {i : Instr} (hc : i.channel = .receive) (hw : i.wf = true) (hr : ∀ f, i ≠ .retryAck f) :
    classify config (encode i) = .len (encode i).length := by
  cases i with
  | ack f => rfl
  | retryAck f => exact absurd rfl (hr f)
  | messageResponse f => rw [(Laws.EncodedLength.messageResponse f hw).1]; rfl
  | control body => rw [Laws.EncodedLength.control body hw, classify_config, encode, encodeControlFrame_eq]; rfl
  | _ => cases hc

/-- A retry-ACK is a ten-byte frame or an unknown kind, by DRAIN_RETRY_AS_ACK (R103). -/
theorem classify_encode_retryAck (retryAsAck : Bool) (f : AckFrame) (rest : List Byte) :
    classify { config with drainRetryAsAck := retryAsAck } (encode (.retryAck f) ++ rest) =
      if retryAsAck then .len 10 else .unknown := by
  rw [classify_eq_classify103]; rfl

/-! ### The drain step -/

variable {s : State}

/-- An unknown kind ends the exchange, RX as it was (R104). -/
theorem drainTurn_of_unknown (h : classify config s.rx = .unknown) : drainTurn s = .stepped (finish s .unknownFrameKind) := by
  simp only [drainTurn, h, codeOf]

/-- Too few bytes to tell the frame hold the drain (R104). -/
theorem drainTurn_of_need {k : Nat} (h : classify config s.rx = .need k) : drainTurn s = .hold := by
  simp only [drainTurn, h]

/-- A frame told by its head is dropped once it is whole (R104). -/
theorem drainTurn_of_len {n : Nat} (h : classify config s.rx = .len n) :
    drainTurn s = if s.rx.length < n then .hold else .stepped (rxDrop s n) := by
  simp only [drainTurn, h]

/-- A whole frame at the head of RX is dropped, and what stands behind it stays (R104). -/
theorem drainTurn_of_frame {f rest : List Byte} (hrx : s.rx = f ++ rest) (hf : classify config f = .len f.length) :
    drainTurn s = .stepped { s with rx := rest } := by
  have hc : classify config s.rx = .len f.length := by rw [hrx, classify_append hf]
  rw [drainTurn_of_len hc, if_neg (by rw [hrx, List.length_append]; omega), rxDrop, hrx, List.drop_left]

/-- In a drain the engine meets what stands at the head of RX with a drain step. -/
theorem receive_of_drains (h : drains s) (b : List Byte) : receive b s = (drainTurn (pushFront b s)).outcome (pushFront b s) := by
  obtain h | h := h <;> simp only [receive, readTurn, pushFront_state, h]

theorem not_awaitsBody_of_drains (h : drains s) : ¬ Safety.awaitsBody s := by
  obtain h | h := h <;> simp [Safety.awaitsBody, h]

/-- A drain drops a well-formed received row but the retry-ACK (R103, R104). -/
theorem exec_of_drains (h : drains s) {i : Instr} (hc : i.channel = .receive) (hw : i.wf = true) (hr : ∀ f, i ≠ .retryAck f) :
    exec i s = .next s := by
  rw [exec_received hc (not_awaitsBody_of_drains h), receive_of_drains h,
    drainTurn_of_frame (pushFront_rx s (encode i)) (classify_encode hc hw hr)]
  rfl

end Sys2Proof.Machine
end

section
/-! PROOFS. The engine's turn in each state: its two drains, its reads, and where it holds (R99, R102, R104, R105). -/

namespace Sys2Proof.Machine

open Sys2Proof.Claims Sys2Proof.Safety

variable {s : State}

/-- The stale drain with RX empty is complete (R105, R111). -/
theorem engineTurn_of_draining (hs : s.state = .draining) (hr : s.rx = []) :
    engineTurn s = .stepped (sendRequest s (requestBytes s)) := by
  simp only [engineTurn, hs, hr, if_true]

/-- The trailing drain with RX empty is complete (R105, R121). -/
theorem engineTurn_of_drainingTrailing (hs : s.state = .drainingTrailing) (hr : s.rx = []) :
    engineTurn s = .stepped (finish s .ok) := by
  simp only [engineTurn, hs, hr, if_true]

/-- With RX not empty either drain takes a drain step (R104, R106). -/
theorem engineTurn_of_drains (hs : drains s) (hr : s.rx ≠ []) : engineTurn s = drainTurn s := by
  obtain hs | hs := hs <;> simp only [engineTurn, readTurn, hs, hr, if_false]

/-- The empty poll of the stale drain sends R88's request (R105, R111). -/
theorem outcome_of_draining (hs : s.state = .draining) (hr : s.rx = []) : (engineTurn s).outcome s =
    .next { s with tx := s.tx ++ request88 s.seq s.ctr s.xTc s.xIid s.xRc, state := .awaitingAck } := by
  rw [engineTurn_of_draining hs hr, ← encodeRequest_eq_request88]; rfl

/-- The empty poll of the trailing drain ends the exchange with OK (R105, R121). -/
theorem outcome_of_drainingTrailing (hs : s.state = .drainingTrailing) (hr : s.rx = []) :
    (engineTurn s).outcome s = .next (finish s .ok) := by
  rw [engineTurn_of_drainingTrailing hs hr]; rfl

/-- The end of an exchange with OK (R137). -/
theorem finish_ok (s : State) : finish s .ok =
    { s with result := .ok, frameBuf := [], rspPhase := .hdr, seq := s.seq + 1, ctr := s.ctr + 1, state := .done } := by
  rw [finish, advance, incr_seq, incr_ctr]; rfl

/-- A drain holds where a frame is not whole; with RX empty it has a step. -/
theorem engineTurn_hold_of_drains (hs : drains s) : engineTurn s = .hold ↔
    s.rx ≠ [] ∧ ((∃ k, classify config s.rx = .need k) ∨ ∃ t, classify config s.rx = .len t ∧ s.rx.length < t) := by
  by_cases hr : s.rx = []
  · obtain hs | hs := hs
    · simp [engineTurn_of_draining hs hr, hr]
    · simp [engineTurn_of_drainingTrailing hs hr, hr]
  · rw [engineTurn_of_drains hs hr, drainTurn_hold]
    simp [hr]

/-- Where the engine holds, state by state: at a read or a drain that lacks bytes (R99, R102, R104). -/
theorem engineTurn_hold_iff (s : State) : engineTurn s = .hold ↔
    (awaitsAck s ∧ s.rx.length < 10) ∨
    (s.state = .awaitingResponse ∧ s.rspPhase = .hdr ∧ s.rx.length < 8) ∨
    (awaitsBody s ∧ 4 ≤ s.frameBuf.length ∧ s.rx.length < (at_ s.frameBuf 3).toNat + 2) ∨
    (drains s ∧ s.rx ≠ [] ∧
      ((∃ k, classify config s.rx = .need k) ∨ ∃ t, classify config s.rx = .len t ∧ s.rx.length < t)) := by
  cases hs : s.state with
  | draining => simp [engineTurn_hold_of_drains (.inl hs), awaitsAck, awaitsBody, drains, hs]
  | drainingTrailing => simp [engineTurn_hold_of_drains (.inr hs), awaitsAck, awaitsBody, drains, hs]
  | awaitingAck | retrySend => simp [engineTurn, readTurn, ackTurn_hold, awaitsAck, awaitsBody, drains, hs]
  | awaitingResponse =>
    cases hp : s.rspPhase with
    | hdr => simp [engineTurn, readTurn, headerTurn_hold, awaitsAck, awaitsBody, drains, hs, hp]
    | body => simp [engineTurn, readTurn, bodyTurn_hold, bodyLen, awaitsAck, awaitsBody, drains, hs, hp]
  | idle | done | failed | sendingResponseAck => simp [engineTurn, awaitsAck, awaitsBody, drains, hs]

/-- Where a response header is awaited the engine's turn is the header phase (R102). -/
theorem readTurn_of_header (hs : s.state = .awaitingResponse) (hp : s.rspPhase = .hdr) : readTurn s = headerTurn s := by
  simp only [readTurn, hs, hp]

/-- The header phase on eight bytes and what stands behind them (R102, R117). -/
theorem headerTurn_of_append {h rest : List Byte} (hrx : s.rx = h ++ rest) (hl : h.length = 8) : headerTurn s = .stepped
    (if msgHeaderOk config h = true then { s with frameBuf := h, rspPhase := .body, rx := rest }
     else finish { s with rx := rest } .frameCorrupt) := by
  have hlen : ¬ s.rx.length < 8 := by rw [hrx, List.length_append]; omega
  have hdrop : rxDrop s 8 = { s with rx := rest } := by rw [rxDrop, hrx, List.drop_left' hl]
  have htake : s.rx.take 8 = h := by rw [hrx, List.take_left' hl]
  simp only [headerTurn, readExact, config_lengths, if_neg hlen, hdrop, htake]
  split_ifs <;> rfl

/-- A row's header is good exactly where its header CRC is the rule's (R90). -/
theorem msgHeaderOk_encodeMessageHeader (f : MessageFrame) :
    msgHeaderOk config (encodeMessageHeader config f) = true ↔ f.hcrc = crc16 [0x80, f.len, 0x00, f.seq] := by
  have hbytes : encodeMessageHeader config f = [0xAA, 0x55, 0x80, f.len, 0x00, f.seq, lo f.hcrc, hi f.hcrc] := rfl
  rw [hbytes, msgHeaderOk_eight, half_eq_iff]
  simp

end Sys2Proof.Machine
end

section
/-! PROOFS. The engine's turn as a step: with no event to come, at the head of the agenda, and on a decoded frame. -/

namespace Sys2Proof.Machine

open Sys2Proof.Claims Sys2Proof.Safety

variable {s : State}

/-- With no event to come the engine has its turn (log 1). -/
theorem nextEvent_of_nil (h : s.agenda = []) : nextEvent s = (.engine, s) := by
  rw [nextEvent, h]

@[simp] theorem nextEvent_snd_rspPhase (s : State) : (nextEvent s).2.rspPhase = s.rspPhase := by rw [nextEvent_state]

@[simp] theorem nextEvent_snd_frameBuf (s : State) : (nextEvent s).2.frameBuf = s.frameBuf := by rw [nextEvent_state]

/-- With no event to come the step is the engine's turn. -/
theorem step_of_nil (h : s.agenda = []) : step s = (engineTurn s).outcome s := by
  have hn := nextEvent_of_nil h
  rw [step_of_engine (congrArg Prod.fst hn), hn]

/-- An engine turn at the head of the agenda. -/
theorem step_engine_cons (s : State) (rest : List Event) : step { s with agenda := .engine :: rest } =
    (engineTurn { s with agenda := rest }).outcome { s with agenda := rest } := step_of_engine rfl

/-- A delivery at the head of the agenda (R47). -/
theorem step_deliver_cons (s : State) (b : Byte) (bs : List Byte) (rest : List Event) :
    step { s with agenda := .deliver b bs :: rest } = .next { s with rx := s.rx ++ b :: bs, agenda := rest } := step_of_deliver rfl

/-- A step whose event carries an instruction runs it. -/
theorem step_of_fetch {s' : State} {i : Instr} (h : fetch s = some (i, s')) : step s = exec i s' := by
  rw [step, h]

/-- At the engine's turn the instruction is the frame row it runs. -/
theorem fetch_of_engine (h : (nextEvent s).1 = .engine) : fetch s = fetchFrame (nextEvent s).2 := by
  have hn : nextEvent s = (.engine, (nextEvent s).2) := by rw [← h]
  rw [fetch, hn]

/-- A well-formed received row at the head of RX is the frame fetched from there. -/
theorem fetchReceived_encode {i : Instr} {rest : List Byte} (hc : i.channel = .receive) (hw : i.wf = true)
    (hrx : s.rx = encode i ++ rest) : fetchReceived s = some (i, { s with rx := rest }) := by
  have hd : decode .receive s.rx = .ok (i, rest) := by rw [hrx]; exact decodeReceive_encode hc hw rest
  rw [fetchReceived, hd]

/-- Where the engine reads the head of RX, a frame fetched from there is the row its turn runs. -/
theorem fetchFrame_of_readsHead {p : Instr × State} (hr : readsHead s = true) (h : fetchReceived s = some p) : fetchFrame s = some p := by
  have hne : s.rx ≠ [] := fun hnil => by simp [fetchReceived_nil hnil] at h
  cases hs : s.state with
  | draining | awaitingAck | retrySend | drainingTrailing => simp [fetchFrame, hs, hne, h]
  | awaitingResponse =>
    have hp : s.rspPhase = .hdr := by simpa [readsHead, hs] using hr
    simp [fetchFrame, hs, hp, h]
  | idle | sendingResponseAck | done | failed => simp [readsHead, hs] at hr

/-- In the body phase a well-formed response, its header in FRAME_BUF and the rest in RX, is the row the turn runs (R102). -/
theorem fetchFrame_of_awaitsBody {f : MessageFrame} {rest : List Byte} (hb : awaitsBody s) (hw : Instr.wf (.messageResponse f) = true)
    (hrx : s.frameBuf ++ s.rx = encode (.messageResponse f) ++ rest) (hl : s.frameBuf.length = 8) :
    fetchFrame s = some (.messageResponse f, { s with rx := rest }) := by
  obtain ⟨hs, hp⟩ := hb
  have hd : decode .receive (s.frameBuf ++ s.rx) = .ok (.messageResponse f, rest) := by
    rw [hrx]; exact decodeReceive_encode rfl hw rest
  have hfetch : fetchFrame s = fetchBody s := by simp only [fetchFrame, hs, hp]
  simp only [hfetch, fetchBody, config_lengths, hl, if_true, hd]

/-! ### A delivery and an empty poll of the drain, in both orders (R105) -/

variable {b : Byte} {bs : List Byte} {rest : List Event}

/-- First a turn that leaves RX empty, then the delivery: its bytes stay in RX. -/
theorem run_engine_deliver {t : State} (hrx : t.rx = [])
    (ht : (engineTurn { s with agenda := .deliver b bs :: rest }).outcome { s with agenda := .deliver b bs :: rest }
      = .next { t with agenda := .deliver b bs :: rest }) :
    Sys2Proof.core.run 2 { s with agenda := .engine :: .deliver b bs :: rest }
      = Host.Outcome.next { t with rx := b :: bs, agenda := rest } := by
  rw [run_next ((step_engine_cons s _).trans ht), run_next (step_deliver_cons t b bs rest), hrx]
  rfl

/-- First the delivery, then the engine's turn: in a drain, a drain step on the bytes delivered (R104). -/
theorem run_deliver_engine {t : State} (hs : drains s) (hrx : s.rx = [])
    (ht : (drainTurn { s with rx := b :: bs, agenda := rest }).outcome { s with rx := b :: bs, agenda := rest } = .next t) :
    Sys2Proof.core.run 2 { s with agenda := .deliver b bs :: .engine :: rest } = Host.Outcome.next t := by
  rw [← engineTurn_of_drains (s := { s with rx := b :: bs, agenda := rest }) hs (List.cons_ne_nil b bs)] at ht
  have hturn : step { s with rx := b :: bs, agenda := .engine :: rest } = .next t :=
    (step_engine_cons { s with rx := b :: bs } rest).trans ht
  rw [run_next (step_deliver_cons s b bs _), hrx, List.nil_append, run_next hturn]
  rfl

end Sys2Proof.Machine
end

section
/-! PROOFS. A hold (R99, R101): what decides it, and the events that leave that as it is. -/

namespace Sys2Proof.Machine

open Sys2Proof.Claims Sys2Proof.Safety

variable {s t : State}

/-- From `s` to `t` everything stays that decides whether the engine holds: STATE, RSP_PHASE, FRAME_BUF and RX. -/
def SameRead (s t : State) : Prop := t.state = s.state ∧ t.rspPhase = s.rspPhase ∧ t.frameBuf = s.frameBuf ∧ t.rx = s.rx

theorem SameRead.engineTurn_hold (h : SameRead s t) (hs : engineTurn s = .hold) : engineTurn t = .hold := by
  obtain ⟨hst, hph, hfb, hrx⟩ := h
  rw [engineTurn_hold_iff] at hs ⊢
  simpa only [awaitsAck, awaitsBody, drains, hst, hph, hfb, hrx] using hs

/-- A holding engine has an exchange in flight (R101). -/
theorem busy_of_hold (h : engineTurn s = .hold) : busy s = true := by
  rw [busy_iff]
  cases hs : s.state with
  | idle | done | failed => simp [engineTurn, hs] at h
  | draining | awaitingAck | retrySend | awaitingResponse | sendingResponseAck | drainingTrailing => simp

@[simp] theorem sameRead_nextEvent (s t : State) : SameRead (nextEvent s).2 t ↔ SameRead s t := by
  simp [SameRead]

theorem sameRead_writeReg (s : State) (o : Offset) (v : Byte) : SameRead s (writeReg s o v) := by
  rw [writeReg_frame]
  exact ⟨rfl, rfl, rfl, rfl⟩

/-- While BUSY = 1 no command but ABORT touches what the engine reads; a START is turned away (R109). -/
theorem exec_command_sameRead {i : Instr} (hc : i.channel = .command) (ha : i ≠ .abort) (hb : busy s = true)
    (h : exec i s = .next t) : SameRead s t := by
  cases i with
  | nop | crcInit | crcUpdate => cases h; exact ⟨rfl, rfl, rfl, rfl⟩
  | start =>
    obtain ⟨-, rfl⟩ | ⟨hnb, -⟩ := exec_start_next h
    · exact ⟨rfl, rfl, rfl, rfl⟩
    · simp [hb] at hnb
  | abort => exact absurd rfl ha
  | _ => cases hc

/-- An ABORT comes from the write of its opcode to CMD only (R44, R73). -/
theorem fetchCommand_abort {o : Offset} {v : Byte} (h : fetchCommand o v = some .abort) : o = 0x0000 ∧ v = 0x11 := by
  obtain h' | ⟨ho, ⟨-, h'⟩ | ⟨-, h'⟩ | ⟨-, h'⟩ | ⟨-, h'⟩ | ⟨hv, -⟩⟩ := fetchCommand_cases o v
  case inr.inr.inr.inr.inr => exact ⟨ho, hv⟩
  all_goals rw [h'] at h; cases h

/-- A host write while BUSY = 1 leaves what the engine reads, unless it is an ABORT. -/
theorem step_hostWrite_sameRead {o : Offset} {v : Byte} (he : (nextEvent s).1 = .hostWrite o v) (hb : busy s = true)
    (ha : ¬ (o = 0x0000 ∧ v = 0x11)) (h : step s = .next t) : SameRead s t := by
  cases hc : fetchCommand o v with
  | none =>
    rw [step_of_registerWrite he hc] at h
    cases h
    simpa using sameRead_writeReg (nextEvent s).2 o v
  | some i =>
    rw [step_of_command he hc] at h
    have hi : i ≠ .abort := fun hi => ha (fetchCommand_abort (hi ▸ hc))
    simpa using exec_command_sameRead (fetchCommand_channel hc) hi ((busy_nextEvent_snd s).trans hb) h

/-- No event but a delivery, an ABORT and a reset touches what a holding engine reads (R101, R151). -/
theorem step_sameRead_of_hold (hh : engineTurn s = .hold) (h : step s = .next t) (hd : ∀ b bs, (nextEvent s).1 ≠ .deliver b bs)
    (ha : (nextEvent s).1 ≠ .hostWrite 0x0000 0x11) (hr : (nextEvent s).1 ≠ .reset) : SameRead s t := by
  have hbehind : SameRead s (nextEvent s).2 := (sameRead_nextEvent s _).mp ⟨rfl, rfl, rfl, rfl⟩
  cases he : (nextEvent s).1 with
  | engine =>
    rw [step_of_engine he, hbehind.engineTurn_hold hh] at h
    cases h
    exact hbehind
  | hostWrite o v =>
    exact step_hostWrite_sameRead he (busy_of_hold hh) (fun ⟨ho, hv⟩ => ha (by rw [he, ho, hv])) h
  | hostRead o =>
    rw [step_of_hostRead he] at h
    cases h
    exact hbehind
  | deliver b bs => exact absurd he (hd b bs)
  | reset => exact absurd he hr

/-- With no event to come a holding engine stays as it is, for ever (R101). -/
theorem run_of_hold (hh : engineTurn s = .hold) (ha : s.agenda = []) (n : Nat) : Sys2Proof.core.run n s = Host.Outcome.next s := by
  induction n with
  | zero => rfl
  | succ n ih =>
    have hstep : step s = .next s := by rw [step_of_nil ha, hh]; rfl
    rw [run_next hstep, ih]

end Sys2Proof.Machine
end

section
/-! PROOFS. The Link Reader: `classify`, the header phase, the drains and the holds (O15, O27, O31 to O33, O35, O36, O38, O40, O57, O59). -/

namespace Sys2Proof

open Sys2Proof.Machine Sys2Proof.Claims Sys2Proof.Safety

/-- Settles O15. -/
theorem classifyIsTheRule : Obligations.ClassifyIsTheRule := classify_eq_classify103

/-- Settles O27: the eight bytes at the head of RX are the row's header, and it is good exactly where its CRC is. -/
theorem responseHeaderIsTaken : Obligations.ResponseHeaderIsTaken := by
  intro s f hs hp
  have hb : ¬ awaitsBody s := by simp [awaitsBody, hp]
  have hrx : (pushFront (encodeMessageFrame config f) s).rx =
      encodeMessageHeader config f ++ (f.payload ++ le9 f.pcrc ++ s.rx) := by
    simp [encodeMessageFrame, le9_eq_le16]
  rw [exec_received rfl hb, receive, encode, readTurn_of_header (s := pushFront _ s) hs hp, headerTurn_of_append hrx rfl,
    le9_eq_le16]
  simp only [msgHeaderOk_encodeMessageHeader]
  split_ifs <;> rfl

/-- Settles O31. -/
theorem drainDropsWholeFrames : Obligations.DrainDropsWholeFrames := fun _ hs =>
  ⟨fun _ => exec_of_drains hs rfl rfl (by simp), fun _ hw => exec_of_drains hs rfl hw (by simp),
    fun _ hw => exec_of_drains hs rfl hw (by simp)⟩

/-- Settles O32. -/
theorem drainRefusesRetryAck : Obligations.DrainRefusesRetryAck := by
  refine ⟨fun s f hs => ?_, fun f rest => classify_encode_retryAck true f rest⟩
  have hc : classify config (pushFront (encode (.retryAck f)) s).rx = .unknown := classify_encode_retryAck false f s.rx
  rw [exec_received rfl (not_awaitsBody_of_drains hs), receive_of_drains hs, drainTurn_of_unknown hc]
  rfl

/-- Settles O33. -/
theorem drainedEngineSendsRequest : Obligations.DrainedEngineSendsRequest := by
  refine fun s f hs hr => ⟨?row, ?turn⟩
  case row => rw [← encodeRequest_eq_request88]; exact congrArg _ (if_pos ⟨hs, hr⟩)
  case turn => exact (step_of_nil rfl).trans (outcome_of_draining hs hr)

/-- Settles O35. -/
theorem trailingDrainCompletes : Obligations.TrailingDrainCompletes := by
  intro s hs hr ha
  rw [step_of_nil ha, outcome_of_drainingTrailing hs hr, finish_ok]

/-- Settles O36, by induction on the frames: each drain step drops the first of those that are left. -/
theorem staleDrainThenRequest : Obligations.StaleDrainThenRequest := by
  intro s frames
  induction frames generalizing s with
  | nil =>
    intro hs ha hr _
    have hrx : s.rx = [] := hr
    rw [List.length_nil, run_next ((step_of_nil ha).trans (outcome_of_draining hs hrx)), ← hrx]
    rfl
  | cons f frames ih =>
    intro hs ha hr hf
    obtain ⟨hhead, htail⟩ := List.forall_mem_cons.mp hf
    have hrx : s.rx = f ++ frames.flatten := hr
    have hne : s.rx ≠ [] := ne_nil_of_classify (hrx ▸ classify_append hhead _)
    have hstep : step s = .next { s with rx := frames.flatten } := by
      rw [step_of_nil ha, engineTurn_of_drains (.inl hs) hne, drainTurn_of_frame hrx hhead]; rfl
    rw [List.length_cons, run_next hstep]
    exact ih { s with rx := frames.flatten } hs ha rfl htail

/-- Settles O38. -/
theorem engineHoldsExactlyForBytes : Obligations.EngineHoldsExactlyForBytes := engineTurn_hold_iff

/-- Settles O40: the row decoded at the head of RX, or behind the header in FRAME_BUF, is the one the step fetches. -/
theorem stepRunsReceivedFrame : Obligations.StepRunsReceivedFrame := by
  refine ⟨fun s i rest he hr hc hw hrx => ?head, fun s f rest he hb hw hrx hl => ?body⟩
  case head =>
    have hfetch := fetchReceived_encode hc hw ((nextEvent_snd_rx s).trans hrx)
    exact step_of_fetch ((fetch_of_engine he).trans (fetchFrame_of_readsHead hr hfetch))
  case body =>
    exact step_of_fetch ((fetch_of_engine he).trans (fetchFrame_of_awaitsBody hb hw (by simpa using hrx) (by simpa using hl)))

/-- Settles O57: the run stays where it is, an ABORT ends the exchange in flight, and no other event touches what decides the hold. -/
theorem holdLastsUntilAbort : Obligations.HoldLastsUntilAbort := by
  refine ⟨fun s hh ha n => ⟨s, run_of_hold hh ha n, busy_of_hold hh⟩, fun s rest hh => ?abort, fun s t hh ht hd ha hr => ?other⟩
  case abort =>
    rw [stepRunsCommand s 0x11 .abort rest rfl]
    exact congrArg _ (if_pos (busy_of_hold hh))
  case other =>
    have hsame := step_sameRead_of_hold hh ht hd ha hr
    exact ⟨hsame.engineTurn_hold hh, hsame.1⟩

/-- Settles O59: after the poll the delivery stays in RX; after the delivery the turn is a drain step, by what `classify` answers. -/
theorem deliveryAndEmptyPollRace : Obligations.DeliveryAndEmptyPollRace := by
  intro s b bs rest hr
  refine ⟨fun hs => ?stale, fun hs => ?trailing, fun hs => run_deliver_engine hs hr ?drain,
    fun q hs hq => run_deliver_engine hs hr ?ack⟩
  case stale =>
    exact run_engine_deliver (t := { s with tx := s.tx ++ request88 s.seq s.ctr s.xTc s.xIid s.xRc, state := .awaitingAck }) hr
      (outcome_of_draining hs hr)
  case trailing => exact run_engine_deliver (t := finish s .ok) hr (outcome_of_drainingTrailing hs hr)
  case drain =>
    have hc := classify_config (b :: bs)
    cases h : classify103 false (b :: bs) with
    | unknown => rw [drainTurn_of_unknown (hc.trans h)]; rfl
    | need k => rw [drainTurn_of_need (hc.trans h)]; rfl
    | len n => rw [drainTurn_of_len (hc.trans h)]; dsimp only; split_ifs <;> rfl
  case ack =>
    have hf : classify config (ack64 0x40 q) = .len (ack64 0x40 q).length := by rw [ack64_eq]; rfl
    rw [hq, drainTurn_of_frame (rest := []) (List.append_nil _).symm hf, ← hr]
    rfl

end Sys2Proof
end

section
/-! PROOFS. The ack read and the body phase on the bytes at the head of RX, by what their decode answers (R112 to R118). -/

namespace Sys2Proof.Machine

open Sys2Proof.Claims Sys2Proof.Safety

variable {s t : State} {b rest : List Byte}

/-- A read that has its bytes takes them and goes on with what stands behind them (R99). -/
theorem readExact_of_append {n : Nat} (k : List Byte → State → Turn) (hrx : s.rx = b ++ rest) (hl : b.length = n) :
    readExact n s k = k b { s with rx := rest } := by
  have hlen : ¬ s.rx.length < n := by rw [hrx, List.length_append]; omega
  rw [readExact, if_neg hlen, rxDrop, hrx, List.take_left' hl, List.drop_left' hl]

/-! ### The ack read -/

/-- The state behind an ack read, by the answer of `decode_ack` (R112 to R116). -/
def afterAck (onRetry : State → State) (s : State) : Except FrameError Bool → State
  | .error e => finish s (codeOf e)
  | .ok false => ackSuccess s
  | .ok true => onRetry s

/-- The ack read on ten bytes and what stands behind them (R100, R112, R115). -/
theorem ackTurn_of_append (k : State → State) (hrx : s.rx = b ++ rest) (hl : b.length = 10) :
    ackTurn k s = .stepped (afterAck k { s with rx := rest } (decodeAck config b s.seq)) := by
  rw [ackTurn, readExact_of_append (n := config.ackLen) _ hrx hl]
  dsimp only
  cases decodeAck config b s.seq with
  | error e => rfl
  | ok retry => cases retry <;> rfl

/-- Where an ACK is awaited the read is the ack read; the two states differ in what a retry-ACK leads to (R112, R115). -/
theorem readTurn_of_awaitingAck (hs : s.state = .awaitingAck) : readTurn s = ackTurn firstRetry s := by
  simp only [readTurn, hs]

theorem readTurn_of_retrySend (hs : s.state = .retrySend) : readTurn s = ackTurn secondRetry s := by
  simp only [readTurn, hs]

/-- The ack read on a frame of ten bytes at the head of RX. -/
theorem readTurn_pushFront_of_awaitsAck (hs : awaitsAck s) (hl : b.length = 10) :
    ∃ k, readTurn (pushFront b s) = .stepped (afterAck k s (decodeAck config b s.seq)) := by
  obtain hs | hs := hs
  · exact ⟨_, (readTurn_of_awaitingAck (s := pushFront b s) hs).trans (ackTurn_of_append _ (pushFront_rx s b) hl)⟩
  · exact ⟨_, (readTurn_of_retrySend (s := pushFront b s) hs).trans (ackTurn_of_append _ (pushFront_rx s b) hl)⟩

/-- The expected ACK leads on (R113). -/
theorem readTurn_ack (hs : awaitsAck s) : readTurn (pushFront (ack64 0x40 s.seq) s) = .stepped (ackSuccess s) := by
  obtain ⟨k, hk⟩ := readTurn_pushFront_of_awaitsAck (b := ack64 0x40 s.seq) hs rfl
  rw [hk, (decodeAck_ok_false_iff _ _).mpr rfl]; rfl

/-- An ACK of another sequence ends the exchange (R112, R115). -/
theorem readTurn_ack_of_other_seq (hs : awaitsAck s) {q : Byte} (hq : q ≠ s.seq) :
    readTurn (pushFront (ack64 0x40 q) s) = .stepped (finish s .sequenceMismatch) := by
  obtain ⟨k, hk⟩ := readTurn_pushFront_of_awaitsAck (b := ack64 0x40 q) hs rfl
  rw [hk, (decodeAck_sequenceMismatch_iff _ _).mpr ⟨q, hq, rfl⟩]; rfl

/-- The first retry-ACK, whatever its sequence, has the request of R88 sent again (R114). -/
theorem readTurn_first_retryAck (hs : s.state = .awaitingAck) (q : Byte) : readTurn (pushFront (ack64 0x04 q) s) = .stepped
    { s with retried := true, tx := s.tx ++ request88 s.seq s.ctr s.xTc s.xIid s.xRc, state := .retrySend } := by
  rw [readTurn_of_awaitingAck (s := pushFront _ s) hs, ackTurn_of_append (rest := s.rx) firstRetry rfl rfl,
    (decodeAck_ok_true_iff _ _).mpr ⟨q, rfl⟩, ← encodeRequest_eq_request88]
  rfl

/-- The second retry-ACK, whatever its sequence, ends the exchange (R116). -/
theorem readTurn_second_retryAck (hs : s.state = .retrySend) (q : Byte) :
    readTurn (pushFront (ack64 0x04 q) s) = .stepped (finish s .commFailure) := by
  rw [readTurn_of_retrySend (s := pushFront _ s) hs, ackTurn_of_append (rest := s.rx) secondRetry rfl rfl,
    (decodeAck_ok_true_iff _ _).mpr ⟨q, rfl⟩]
  rfl

/-- A frame met at the head of RX is the engine's enabled step there. -/
theorem receive_of_stepped (h : readTurn (pushFront b s) = .stepped t) : receive b s = .next t := by
  rw [receive, h]; rfl

/-- A received ACK or retry-ACK with the rule's CRC and trailer is R64's or R65's frame of its sequence. -/
theorem exec_ack_of_valid {f : AckFrame} (h : ackValid 0x40 f) (s : State) : exec (.ack f) s = receive (ack64 0x40 f.seq) s :=
  congrArg (receive · s) ((encodeAckFrame_eq_ack64_iff ..).mpr ⟨rfl, rfl, h⟩)

theorem exec_retryAck_of_valid {f : AckFrame} (h : ackValid 0x04 f) (s : State) :
    exec (.retryAck f) s = receive (ack64 0x04 f.seq) s :=
  congrArg (receive · s) ((encodeAckFrame_eq_ack64_iff ..).mpr ⟨rfl, rfl, h⟩)

/-! ### The response read -/

/-- The state behind the body phase, by the answer of `decode_message` (R118). -/
def afterBody (s : State) : Except FrameError Response → State
  | .error e => finish s (codeOf e)
  | .ok r => acceptResponse s r

/-- The body phase on the bytes it waits for and what stands behind them (R102, R118). -/
theorem bodyTurn_of_append (hf : 4 ≤ s.frameBuf.length) (hrx : s.rx = b ++ rest) (hl : b.length = bodyLen s.frameBuf) :
    bodyTurn s = .stepped (afterBody { s with rx := rest }
      (decodeMessage config (s.frameBuf ++ b) s.ctr s.xTc s.xIid s.xRc)) := by
  rw [bodyTurn, if_neg (by omega), readExact_of_append _ hrx hl]
  dsimp only
  cases decodeMessage config (s.frameBuf ++ b) s.ctr s.xTc s.xIid s.xRc <;> rfl

/-- Where a response body is awaited the read is the body phase (R102). -/
theorem readTurn_of_body (hb : awaitsBody s) : readTurn s = bodyTurn s := by
  obtain ⟨hs, hp⟩ := hb
  simp only [readTurn, hs, hp]

/-- The body phase behind a good header, on the payload that header declares, its CRC right or not (R118). -/
theorem readTurn_payload (hb : awaitsBody s) {q : Byte} {payload : List Byte} (pcrc : Half) (hl : payload.length ≤ 255)
    (hf : s.frameBuf = header66 (BitVec.ofNat 8 payload.length) q) : readTurn (pushFront (payload ++ le9 pcrc) s) =
      .stepped (afterBody s (decodeMessage config (framed q payload pcrc) s.ctr s.xTc s.xIid s.xRc)) := by
  have hbody : bodyLen s.frameBuf = (BitVec.ofNat 8 payload.length).toNat + 2 := by rw [hf]; rfl
  have hlen : (payload ++ le9 pcrc).length = bodyLen s.frameBuf := by
    rw [hbody, BitVec.toNat_ofNat, Nat.mod_eq_of_lt (by omega), List.length_append]; rfl
  have hfour : 4 ≤ s.frameBuf.length := by rw [hf, header66_eq]; simp
  have hframe : framed q payload pcrc = s.frameBuf ++ (payload ++ le9 pcrc) := by rw [framed, hf, List.append_assoc]
  rw [readTurn_of_body (s := pushFront _ s) hb, hframe]
  exact bodyTurn_of_append (s := pushFront _ s) hfour rfl hlen

/-- The fields of a response that echoes the request are accepted (R118). -/
theorem readTurn_echo (hb : awaitsBody s) {q : Byte} {fields payload : List Byte} (hl : fields.length ≤ 247)
    (hpay : payload = payload68 s.ctr s.xTc s.xIid s.xRc fields)
    (hf : s.frameBuf = header66 (BitVec.ofNat 8 payload.length) q) : readTurn (pushFront (payload ++ le9 (crc16 payload)) s) =
      .stepped (acceptResponse s { echoSeq := q, fields := fields }) := by
  have hlen : payload.length ≤ 255 := by simp [hpay, payload68]; omega
  have hdecode : decodeMessage config (framed q payload (crc16 payload)) s.ctr s.xTc s.xIid s.xRc
      = .ok { echoSeq := q, fields := fields } :=
    (decodeMessage_ok_iff ..).mpr ⟨hl, by rw [← message66_eq_framed, hpay]⟩
  rw [readTurn_payload hb _ hlen hf, hdecode]
  rfl

/-- The header phase on the header of R66: it is taken, and what stands behind it stays in RX (R117). -/
theorem readTurn_header (hs : s.state = .awaitingResponse) (hp : s.rspPhase = .hdr) (len q : Byte) :
    readTurn (pushFront (header66 len q) s) = .stepped { s with frameBuf := header66 len q, rspPhase := .body } := by
  rw [readTurn_of_header (s := pushFront _ s) hs hp, headerTurn_of_append (rest := s.rx) rfl rfl,
    if_pos (msgHeaderOk_header66 len q)]
  rfl

/-- A payload is at most 255 bytes, as its length byte says (R61). -/
theorem payload_length_le {f : MessageFrame} (hw : Instr.wf (.messageResponse f) = true) : f.payload.length ≤ 255 := by
  have hlt := f.len.isLt
  rw [(wf_messageResponse f).mp hw]
  omega

/-- A row's eight header bytes are R66's, of the payload's own length, where its header CRC is the rule's. -/
theorem encodeMessageHeader_eq_header66 {f : MessageFrame} (hw : Instr.wf (.messageResponse f) = true)
    (h : f.hcrc = crc16 [0x80, f.len, 0x00, f.seq]) :
    encodeMessageHeader config f = header66 (BitVec.ofNat 8 f.payload.length) f.seq := by
  rw [(wf_messageResponse f).mp hw, BitVec.ofNat_toNat, BitVec.setWidth_eq, header66_eq, ← h]
  rfl

/-- A response met in the body phase, behind its own good header: all of it is taken, and `decode_message` decides (R118). -/
theorem exec_messageResponse_of_awaitsBody {f : MessageFrame} (hb : awaitsBody s) (hw : Instr.wf (.messageResponse f) = true)
    (hh : f.hcrc = crc16 [0x80, f.len, 0x00, f.seq]) : exec (.messageResponse f) s =
      .next (afterBody { s with frameBuf := encodeMessageHeader config f }
        (decodeMessage config (framed f.seq f.payload f.pcrc) s.ctr s.xTc s.xIid s.xRc)) := by
  have hexec : exec (.messageResponse f) s =
      receive (f.payload ++ le9 f.pcrc) { s with frameBuf := encodeMessageHeader config f } := by
    rw [le9_eq_le16]; exact if_pos hb
  rw [hexec]
  exact receive_of_stepped (readTurn_payload (s := { s with frameBuf := encodeMessageHeader config f }) hb f.pcrc
    (payload_length_le hw) (encodeMessageHeader_eq_header66 hw hh))

/-- Eight bytes of another kind than a Message frame are no response header (R90). -/
theorem msgHeaderOk_of_other_kind (h : at_ b 2 ≠ 0x80) : ¬ msgHeaderOk config b = true := by
  have hkind : (at_ b 2 == config.msgKind) = false := beq_false_of_ne h
  simp [msgHeaderOk, hkind]

/-- Where a response header is awaited, a whole row of another kind ends the exchange with eight bytes taken (R117). -/
theorem receive_of_header_other_kind (hs : s.state = .awaitingResponse) (hp : s.rspPhase = .hdr) (hl : 8 ≤ b.length)
    (hk : at_ b 2 ≠ 0x80) : receive b s = .next (finish { s with rx := b.drop 8 ++ s.rx } .frameCorrupt) := by
  have hrx : (pushFront b s).rx = b.take 8 ++ (b.drop 8 ++ s.rx) := by
    rw [← List.append_assoc, List.take_append_drop, pushFront_rx]
  have hkind : at_ (b.take 8) 2 ≠ 0x80 := by rwa [at_take (by omega)]
  refine receive_of_stepped ((readTurn_of_header (s := pushFront b s) hs hp).trans ?_)
  rw [headerTurn_of_append hrx (by rw [List.length_take]; omega), if_neg (msgHeaderOk_of_other_kind hkind)]
  rfl

end Sys2Proof.Machine
end

section
/-! PROOFS. The engine's turn by its outcome: where it is quiescent (R125), and the states its step leads to (R128). -/

namespace Sys2Proof.Machine

open Sys2Proof.Claims Sys2Proof.Safety

variable {s t : State}

/-! ### A turn that reads RX is a step or a hold, and never quiescent -/

theorem readExact_ne_quiescent {k : List Byte → State → Turn} (hk : ∀ b u, k b u ≠ .quiescent) (n : Nat) (s : State) :
    readExact n s k ≠ .quiescent := by
  unfold readExact
  split_ifs
  · simp
  · exact hk _ _

theorem drainTurn_ne_quiescent (s : State) : drainTurn s ≠ .quiescent := by
  unfold drainTurn
  cases classify config s.rx with
  | unknown => simp
  | need k => simp
  | len n => dsimp only; split_ifs <;> simp

theorem ackTurn_ne_quiescent (k : State → State) (s : State) : ackTurn k s ≠ .quiescent := by
  refine readExact_ne_quiescent (fun b u => ?_) _ s
  cases decodeAck config b u.seq with
  | error e => simp
  | ok retry => cases retry <;> simp

theorem headerTurn_ne_quiescent (s : State) : headerTurn s ≠ .quiescent := by
  refine readExact_ne_quiescent (fun b u => ?_) _ s
  split_ifs <;> simp

theorem bodyTurn_ne_quiescent (s : State) : bodyTurn s ≠ .quiescent := by
  unfold bodyTurn
  split_ifs
  · simp
  · refine readExact_ne_quiescent (fun b u => ?_) _ s
    cases decodeMessage config (u.frameBuf ++ b) u.ctr u.xTc u.xIid u.xRc <;> simp

/-- The engine is quiescent exactly where BUSY = 0 (R125). -/
theorem engineTurn_quiescent_iff (s : State) : engineTurn s = .quiescent ↔ busy s = false := by
  cases hs : s.state with
  | idle | done | failed => simp [engineTurn, busy, isBusy, hs]
  | draining | drainingTrailing =>
    by_cases hr : s.rx = [] <;> simp [engineTurn, readTurn, drainTurn_ne_quiescent, busy, isBusy, hs, hr]
  | awaitingAck | retrySend => simp [engineTurn, readTurn, ackTurn_ne_quiescent, busy, isBusy, hs]
  | awaitingResponse =>
    cases hp : s.rspPhase <;>
      simp [engineTurn, readTurn, headerTurn_ne_quiescent, bodyTurn_ne_quiescent, busy, isBusy, hs, hp]
  | sendingResponseAck => simp [engineTurn, busy, isBusy, hs]

/-- While BUSY = 0 an engine turn changes nothing but the event taken (R125). -/
theorem step_engine_of_not_busy (hb : busy s = false) (he : (nextEvent s).1 = .engine) : step s = .next (nextEvent s).2 := by
  have hq : engineTurn (nextEvent s).2 = .quiescent := (engineTurn_quiescent_iff _).mpr (by rw [busy_nextEvent_snd, hb])
  rw [step_of_engine he, hq]; rfl

/-- While BUSY = 0 no command but START changes STATE (R124, R125). -/
theorem exec_command_state_of_not_busy {i : Instr} (hc : i.channel = .command) (hi : i ≠ .start) (hb : busy s = false)
    (h : exec i s = .next t) : t.state = s.state := by
  cases i with
  | nop | crcInit | crcUpdate => cases h; rfl
  | start => exact absurd rfl hi
  | abort =>
    obtain ⟨hb', -⟩ | ⟨-, rfl⟩ := exec_abort_next h
    · simp [hb] at hb'
    · rfl
  | _ => cases hc

/-- While BUSY = 0 no host write but START changes STATE (R125). -/
theorem step_hostWrite_state_of_not_busy {o : Offset} {v : Byte} (he : (nextEvent s).1 = .hostWrite o v) (hb : busy s = false)
    (hv : ¬ (o = 0x0000 ∧ v = 0x10)) (h : step s = .next t) : t.state = s.state := by
  cases hc : fetchCommand o v with
  | none =>
    rw [step_of_registerWrite he hc] at h
    cases h
    simp
  | some i =>
    rw [step_of_command he hc] at h
    have hi : i ≠ .start := fun hi => hv (fetchCommand_start (hi ▸ hc))
    simpa using exec_command_state_of_not_busy (fetchCommand_channel hc) hi ((busy_nextEvent_snd s).trans hb) h

/-! ### Where each step leads -/

/-- A drain step stays in its drain or ends the exchange (R104). -/
theorem drainTurn_leads (h : drainTurn s = .stepped t) :
    t.state = s.state ∨ t.state = .failed ∧ t.result = .unknownFrameKind := by
  obtain ⟨-, rfl⟩ | ⟨n, -, -, rfl⟩ := drainTurn_stepped h
  · exact .inr ⟨rfl, rfl⟩
  · exact .inl rfl

/-- An ack read leads on, to what a retry-ACK leads to, or to the end of the exchange (R112 to R116). -/
theorem ackTurn_leads {k : State → State} (h : ackTurn k s = .stepped t) : 10 ≤ s.rx.length ∧
    (t.state = (if s.xExp = true then .awaitingResponse else .drainingTrailing) ∨ t = k (rxDrop s 10) ∨
      t.state = .failed ∧ (t.result = .frameCorrupt ∨ t.result = .sequenceMismatch)) := by
  obtain ⟨hl, ⟨e, he, rfl⟩ | ⟨-, rfl⟩ | ⟨-, rfl⟩⟩ := ackTurn_stepped h
  · refine ⟨hl, .inr (.inr ?_)⟩
    obtain rfl | rfl := decodeAck_error he
    · exact ⟨rfl, .inl rfl⟩
    · exact ⟨rfl, .inr rfl⟩
  · exact ⟨hl, .inl (ackSuccess_state _)⟩
  · exact ⟨hl, .inr (.inl rfl)⟩

/-- The header phase leads to the body phase or to the end of the exchange (R117). -/
theorem headerTurn_leads (hs : s.state = .awaitingResponse) (h : headerTurn s = .stepped t) : 8 ≤ s.rx.length ∧
    (t.state = .awaitingResponse ∧ t.rspPhase = .body ∨ t.state = .failed ∧ t.result = .frameCorrupt) := by
  obtain ⟨hl, ⟨-, rfl⟩ | ⟨-, rfl⟩⟩ := headerTurn_stepped h
  · exact ⟨hl, .inl ⟨hs, rfl⟩⟩
  · exact ⟨hl, .inr ⟨rfl, rfl⟩⟩

/-- The body phase leads to the response-ack or to the end of the exchange (R118). -/
theorem bodyTurn_leads (h : bodyTurn s = .stepped t) : t.state = .sendingResponseAck ∨
    t.state = .failed ∧ (t.result = .frameCorrupt ∨ t.result = .payloadMismatch) := by
  obtain ⟨-, -, ⟨e, he, rfl⟩ | ⟨r, -, rfl⟩⟩ := bodyTurn_stepped h
  · obtain rfl | rfl := decodeMessage_error he
    · exact .inr ⟨rfl, .inl rfl⟩
    · exact .inr ⟨rfl, .inr rfl⟩
  · exact .inl rfl

end Sys2Proof.Machine
end

section
/-! PROOFS. Parts of an exchange as runs: the delivery of a frame, START with the request, and each answer with the turns it leads to. -/

namespace Sys2Proof.Machine

open Sys2Proof.Claims Sys2Proof.Safety

variable {s t : State} {n : Nat} {rest : List Event}

/-- The end of an exchange, every register written out (R137). -/
theorem finish_eq (s : State) (r : ResultCode) : finish s r =
    { s with
      result := r, respLen := if r = .ok then s.respLen else 0x00, frameBuf := [], rspPhase := .hdr,
      seq := s.seq + 1, ctr := s.ctr + 1, state := if r = .ok then .done else .failed } := by
  rw [finish, advance, incr_seq, incr_ctr]

/-- A START accepted (R109). -/
theorem exec_start_of_not_busy (hb : busy s = false) : exec .start s = .next (beginExchange s) :=
  congrArg _ (if_neg (by simp [hb]))

/-- SENDING_RESPONSE_ACK sends R64's ACK of RESP_SEQ (R119). -/
theorem engineTurn_of_sendingResponseAck (hs : s.state = .sendingResponseAck) :
    engineTurn s = .stepped { s with tx := s.tx ++ ack64 0x40 s.respSeq, state := .drainingTrailing } := by
  rw [← encodeAck_eq_ack64]
  simp only [engineTurn, hs, sendAck, txSend]

/-- Where an ACK or a response is awaited the engine's turn is the read, RX empty or not. -/
theorem engineTurn_of_awaits (hs : awaitsAck s ∨ s.state = .awaitingResponse) : engineTurn s = readTurn s := by
  obtain (hs | hs) | hs := hs <;> simp only [engineTurn, hs]

theorem pushFront_append (a b : List Byte) (s : State) : pushFront (a ++ b) s = pushFront a (pushFront b s) := by
  simp only [pushFront, List.append_assoc]

/-! ### One event, or a delivery and the turn on it -/

/-- An engine turn at the head of the agenda, taken. -/
theorem run_turn (s : State) (h : engineTurn { s with agenda := rest } = .stepped t) :
    Sys2Proof.core.run (n + 1) { s with agenda := .engine :: rest } = Sys2Proof.core.run n t :=
  run_next ((step_engine_cons s rest).trans (by rw [h]; rfl))

/-- A frame delivered into an empty RX is met at its head. -/
theorem run_delivery (s : State) {frame : List Byte} (hrx : s.rx = []) (hf : 0xAA :: frame.tail = frame) :
    Sys2Proof.core.run (n + 1) { s with agenda := delivery frame :: rest }
      = Sys2Proof.core.run n (pushFront frame { s with agenda := rest }) := by
  rw [delivery, run_next (step_deliver_cons s _ _ rest), pushFront, hf, hrx, List.append_nil, List.nil_append]

/-- A delivery and the engine's read of it. -/
theorem run_delivery_read (s : State) {frame : List Byte} (hs : awaitsAck s ∨ s.state = .awaitingResponse) (hrx : s.rx = [])
    (hf : 0xAA :: frame.tail = frame) (ht : readTurn (pushFront frame { s with agenda := rest }) = .stepped t) :
    Sys2Proof.core.run (n + 2) { s with agenda := delivery frame :: .engine :: rest } = Sys2Proof.core.run n t := by
  rw [← engineTurn_of_awaits (s := pushFront frame { s with agenda := rest }) hs] at ht
  exact (run_delivery s hrx hf).trans (run_turn (pushFront frame s) ht)

/-! ### The request and its ACK -/

/-- The state behind START and the empty poll of the stale drain: the request is sent and its ACK awaited (R109, R111). -/
def requestSent (s : State) : State :=
  { beginExchange s with tx := s.tx ++ request88 s.seq s.ctr s.reqTc s.reqIid s.reqRc, state := .awaitingAck }

theorem run_start_request (s : State) (hb : busy s = false) (hrx : s.rx = []) :
    Sys2Proof.core.run (n + 2) { s with agenda := .hostWrite 0x0000 0x10 :: .engine :: rest }
      = Sys2Proof.core.run n { requestSent s with agenda := rest } := by
  have hstart : step { s with agenda := .hostWrite 0x0000 0x10 :: .engine :: rest }
      = .next { beginExchange s with agenda := .engine :: rest } :=
    (stepRunsCommand s 0x10 .start _ rfl).trans (exec_start_of_not_busy (s := { s with agenda := .engine :: rest }) hb)
  have hsend : step { beginExchange s with agenda := .engine :: rest } = .next { requestSent s with agenda := rest } :=
    (step_engine_cons (beginExchange s) rest).trans (outcome_of_draining rfl hrx)
  exact (run_next hstart).trans (run_next hsend)

/-- The state behind the ACK of the request, with a response asked for or not (R113). -/
def acknowledged (s : State) (x : Bool) : State :=
  { requestSent s with xExp := x, state := if x then .awaitingResponse else .drainingTrailing }

theorem ackSuccess_requestSent {x : Bool} (hx : s.reqFlags.getLsbD 0 = x) :
    ackSuccess { requestSent s with agenda := rest } = { acknowledged s x with agenda := rest } := by
  have hexp : (requestSent s).xExp = x := hx
  have hsent : requestSent s = { requestSent s with xExp := x } := by rw [← hexp]
  rw [hsent]
  cases x <;> rfl

/-- START, the request and its ACK (R109, R111, R113). -/
theorem run_acknowledged (s : State) {x : Bool} (hb : busy s = false) (hrx : s.rx = []) (hx : s.reqFlags.getLsbD 0 = x) :
    Sys2Proof.core.run (n + 4)
        { s with agenda := .hostWrite 0x0000 0x10 :: .engine :: delivery (ack64 0x40 s.seq) :: .engine :: rest }
      = Sys2Proof.core.run n { acknowledged s x with agenda := rest } := by
  rw [← ackSuccess_requestSent hx]
  exact (run_start_request s hb hrx).trans (run_delivery_read (requestSent s) (.inl (.inl rfl)) hrx rfl
    (readTurn_ack (s := { requestSent s with agenda := rest }) (.inl rfl)))

/-- The state behind the first retry-ACK: the identical request is sent once more (R114). -/
def requestResent (s : State) : State :=
  { requestSent s with
    retried := true, tx := (requestSent s).tx ++ request88 s.seq s.ctr s.reqTc s.reqIid s.reqRc, state := .retrySend }

/-- START, the request and a retry-ACK (R109, R111, R114). -/
theorem run_resent (s : State) (hb : busy s = false) (hrx : s.rx = []) (q : Byte) :
    Sys2Proof.core.run (n + 4)
        { s with agenda := .hostWrite 0x0000 0x10 :: .engine :: delivery (ack64 0x04 q) :: .engine :: rest }
      = Sys2Proof.core.run n { requestResent s with agenda := rest } :=
  (run_start_request s hb hrx).trans (run_delivery_read (requestSent s) (.inl (.inl rfl)) hrx rfl
    (readTurn_first_retryAck (s := { requestSent s with agenda := rest }) rfl q))

/-! ### The response, its ACK and the end -/

/-- The state behind a response header: RSP_PHASE is BODY (R117). -/
def headerTaken (s : State) (header : List Byte) : State := { s with frameBuf := header, rspPhase := .body }

/-- The state behind a whole response: RSP_PHASE is still BODY (R118, log 12). -/
def responseAccepted (s : State) (r : Response) : State := acceptResponse { s with rspPhase := .body } r

/-- A message at the head of RX: its header is taken, and its payload stays there (R117). -/
theorem readTurn_message (hs : s.state = .awaitingResponse) (hp : s.rspPhase = .hdr) (q : Byte) (payload : List Byte) :
    readTurn (pushFront (message66 q payload) s) = .stepped
      (pushFront (payload ++ le9 (crc16 payload)) (headerTaken s (header66 (BitVec.ofNat 8 payload.length) q))) := by
  rw [message66_eq_framed, framed, List.append_assoc, pushFront_append]
  exact readTurn_header (s := pushFront _ s) hs hp _ q

/-- A response that echoes the request, in both phases of the read (R117, R118). -/
theorem run_response (s : State) {fields : List Byte} (hs : s.state = .awaitingResponse) (hp : s.rspPhase = .hdr) (hrx : s.rx = [])
    (hl : fields.length ≤ 247) (q : Byte) :
    Sys2Proof.core.run (n + 3)
        { s with agenda := delivery (message66 q (payload68 s.ctr s.xTc s.xIid s.xRc fields)) :: .engine :: .engine :: rest }
      = Sys2Proof.core.run n { responseAccepted s { echoSeq := q, fields := fields } with agenda := rest } := by
  generalize hpay : payload68 s.ctr s.xTc s.xIid s.xRc fields = payload
  generalize hhdr : header66 (BitVec.ofNat 8 payload.length) q = header
  have hheader : readTurn (pushFront (message66 q payload) { s with agenda := .engine :: rest }) = .stepped
      (pushFront (payload ++ le9 (crc16 payload)) (headerTaken { s with agenda := .engine :: rest } header)) := by
    rw [← hhdr]
    exact readTurn_message (s := { s with agenda := .engine :: rest }) hs hp q payload
  have hbody : engineTurn (pushFront (payload ++ le9 (crc16 payload)) (headerTaken { s with agenda := rest } header)) = .stepped
      { responseAccepted s { echoSeq := q, fields := fields } with agenda := rest } := by
    rw [engineTurn_of_awaits (s := pushFront _ (headerTaken { s with agenda := rest } header)) (.inr hs)]
    exact readTurn_echo (s := headerTaken { s with agenda := rest } header) ⟨hs, rfl⟩ hl hpay.symm hhdr.symm
  exact (run_delivery_read s (.inr hs) hrx rfl hheader).trans (run_turn (pushFront _ (headerTaken s header)) hbody)

/-- The response-ack and the empty poll of the trailing drain (R119, R121). -/
theorem run_responseAck_finish (s : State) (hs : s.state = .sendingResponseAck) (hrx : s.rx = []) :
    Sys2Proof.core.run (n + 2) { s with agenda := .engine :: .engine :: rest } = Sys2Proof.core.run n
      (finish { s with tx := s.tx ++ ack64 0x40 s.respSeq, state := .drainingTrailing, agenda := rest } .ok) :=
  (run_turn s (engineTurn_of_sendingResponseAck (s := { s with agenda := .engine :: rest }) hs)).trans
    (run_turn { s with tx := s.tx ++ ack64 0x40 s.respSeq, state := .drainingTrailing } (engineTurn_of_drainingTrailing rfl hrx))

end Sys2Proof.Machine
end

section
/-! PROOFS. The Protocol Engine: START and ABORT, each read and send, the transition table, and whole exchanges (O3, O4, O23, O25, O26,
O28 to O30, O34, O39, O41, O42, O55, O56). -/

namespace Sys2Proof

open Sys2Proof.Machine Sys2Proof.Claims Sys2Proof.Safety

/-- Settles O41: the row decoded, or none, is the engine's turn on the raw bytes. -/
theorem stepIsTheEngineTurn : Obligations.StepIsTheEngineTurn := fun _ => step_of_engine

/-- Settles O3. -/
theorem startBeginsOrSetsRej : Obligations.StartBeginsOrSetsRej := fun _ =>
  ⟨exec_start_of_not_busy, fun hb => congrArg _ (if_pos hb)⟩

/-- Settles O4. -/
theorem abortEndsExchangeInFlight : Obligations.AbortEndsExchangeInFlight := fun s =>
  ⟨fun hb => (congrArg _ (if_pos hb)).trans (congrArg _ (finish_eq s .aborted)), fun hb => congrArg _ (if_neg (by simp [hb]))⟩

/-- Settles O23: in both states the ack read takes the ten bytes, and their sequence decides. -/
theorem goodAckLeadsOnOrMismatches : Obligations.GoodAckLeadsOnOrMismatches := by
  intro s f hs hf
  rw [exec_ack_of_valid hf]
  refine ⟨fun hq => ?expected, fun hq => receive_of_stepped (readTurn_ack_of_other_seq hs hq)⟩
  case expected => rw [hq]; exact receive_of_stepped (readTurn_ack hs)

/-- Settles O25. -/
theorem retryAckResendsOnce : Obligations.RetryAckResendsOnce := by
  intro s f hf
  rw [exec_retryAck_of_valid hf]
  exact ⟨fun hs => receive_of_stepped (readTurn_first_retryAck hs f.seq),
    fun hs => receive_of_stepped (readTurn_second_retryAck hs f.seq)⟩

/-- Settles O28. -/
theorem responseIsAccepted : Obligations.ResponseIsAccepted := by
  intro s f fields hb hw hh hpay hpcrc
  have hecho : f.payload = payload68 s.ctr s.xTc s.xIid s.xRc fields := hpay
  have htake := (take_eq_echoHeader_iff f.payload s.ctr s.xTc s.xIid s.xRc).mpr (by rw [hecho]; rfl)
  rw [exec_messageResponse_of_awaitsBody hb hw hh, decodeMessage_framed (payload_length_le hw), if_neg (not_not.mpr htake),
    if_pos hpcrc, hecho]
  rfl

/-- Settles O29. -/
theorem responseIsRefused : Obligations.ResponseIsRefused := by
  intro s f hb hw hh
  rw [exec_messageResponse_of_awaitsBody hb hw hh, decodeMessage_framed (payload_length_le hw), echo, payload68_nil]
  refine ⟨fun he => ?wrongEcho, fun he hp => ?wrongCrc⟩
  case wrongEcho => rw [if_pos he]; rfl
  case wrongCrc => rw [if_neg (not_not.mpr he), if_neg hp]; rfl

/-- Settles O30: each of these rows has at least eight bytes, and its kind is not a Message frame's. -/
theorem headerReadRefusesOtherFrames : Obligations.HeaderReadRefusesOtherFrames := by
  intro s i hs hp hw hi
  have hb : ¬ awaitsBody s := by simp [awaitsBody, hp]
  obtain ⟨f, rfl⟩ | ⟨f, rfl⟩ | ⟨body, rfl⟩ := hi
  · have hl := Laws.EncodedLength.ack f
    rw [exec_received rfl hb]
    exact receive_of_header_other_kind hs hp (hl ▸ by decide) (show (0x40 : Byte) ≠ 0x80 by decide)
  · have hl := Laws.EncodedLength.retryAck f
    rw [exec_received rfl hb]
    exact receive_of_header_other_kind hs hp (hl ▸ by decide) (show (0x04 : Byte) ≠ 0x80 by decide)
  · have hl := Laws.EncodedLength.control body hw
    rw [exec_received rfl hb]
    exact receive_of_header_other_kind hs hp (by omega) (show (0x4E : Byte) ≠ 0x80 by decide)

/-- Settles O34. -/
theorem responseAckIsSent : Obligations.ResponseAckIsSent := by
  refine fun s f hs => ⟨?row, ?turn⟩
  case row => rw [← encodeAck_eq_ack64]; exact congrArg _ (if_pos hs)
  case turn => rw [step_of_nil rfl, engineTurn_of_sendingResponseAck (s := { s with agenda := [] }) hs]; rfl

/-- Settles O39, by the kind of event. -/
theorem quiescentEngineTakesNothing : Obligations.QuiescentEngineTakesNothing := by
  refine fun s => ⟨(engineTurn_quiescent_iff s).symm, fun b bs rest _ ha => ?delivery, fun t hb ht hr => ?other⟩
  case delivery =>
    have hn := nextEvent_of_cons ha
    rw [step_of_deliver (congrArg Prod.fst hn), hn]
  case other =>
    cases he : (nextEvent s).1 with
    | engine =>
      rw [step_engine_of_not_busy hb he] at ht
      cases ht
      exact ⟨⟨[], by simp⟩, fun _ => by simp⟩
    | hostWrite o v =>
      refine ⟨⟨[], by simpa using step_hostWrite_rx he ht⟩, fun hv => step_hostWrite_state_of_not_busy he hb ?_ ht⟩
      rintro ⟨rfl, rfl⟩
      exact hv rfl
    | hostRead o => rw [step_of_hostRead he] at ht; cases ht; exact ⟨⟨[], by simp⟩, fun _ => by simp⟩
    | deliver b bs => rw [step_of_deliver he] at ht; cases ht; exact ⟨⟨b :: bs, by simp⟩, fun _ => by simp⟩
    | reset => exact absurd he hr

/-- Settles O42, by the row of the transition table. -/
theorem engineFollowsTransitionTable : Obligations.EngineFollowsTransitionTable := by
  intro s t ht
  unfold awaitsBody
  obtain ⟨hs, hr, rfl⟩ | ⟨hs, hr, rfl⟩ | ⟨hs | hs, hr, ht⟩ | ⟨hs, ht⟩ | ⟨hs, ht⟩ | ⟨hs, hp, ht⟩ | ⟨hs, hp, ht⟩ | ⟨hs, rfl⟩ :=
    engineTurn_stepped ht
  · simp [hs, hr]
  · simp [hs, hr]
  · simpa [hs, hr] using drainTurn_leads ht
  · simpa [hs, hr] using drainTurn_leads ht
  · obtain ⟨hl, h | rfl | h⟩ := ackTurn_leads ht
    · simp [hs, hl, h]
    · simp [hs, hl, firstRetry_eq]
    · simp [hs, hl, h]
  · obtain ⟨hl, h | rfl | h⟩ := ackTurn_leads ht
    · simp [hs, hl, h]
    · simp [hs, hl, secondRetry]
    · simp [hs, hl, h]
  · simpa [hs, hp] using headerTurn_leads hs ht
  · simpa [hs, hp] using bodyTurn_leads ht
  · simp [hs]

/-- Settles O26: behind START, the request and the first retry-ACK, the second is one delivery and one turn. -/
theorem ackRetryBound : Obligations.AckRetryBound := by
  intro s q₁ q₂ rest hb hrx
  calc
    _ = Sys2Proof.core.run 2 { requestResent s with agenda := delivery (ack64 0x04 q₂) :: .engine :: rest } :=
      run_resent s hb hrx q₁
    _ = Sys2Proof.core.run 0 (finish { requestResent s with agenda := rest } .commFailure) :=
      run_delivery_read (requestResent s) (.inl (.inr rfl)) hrx rfl
        (readTurn_second_retryAck (s := { requestResent s with agenda := rest }) rfl q₂)
    _ = _ := by rw [finish_eq]; rfl

/-- Settles O55: the request and its ACK, the response in both phases, the response-ack and the trailing drain. -/
theorem wholeExchangeReturnsFields : Obligations.WholeExchangeReturnsFields := by
  intro s q fields rest hb hrx hx hl
  calc
    _ = Sys2Proof.core.run 5
        { acknowledged s true with
          agenda := delivery (message66 q (payload68 s.ctr s.reqTc s.reqIid s.reqRc fields))
            :: .engine :: .engine :: .engine :: .engine :: rest } := run_acknowledged s hb hrx hx
    _ = Sys2Proof.core.run 2
        { responseAccepted (acknowledged s true) { echoSeq := q, fields := fields } with agenda := .engine :: .engine :: rest } :=
      run_response (acknowledged s true) rfl rfl hrx hl q
    _ = Sys2Proof.core.run 0 _ := run_responseAck_finish (responseAccepted (acknowledged s true) _) rfl hrx
    _ = _ := by rw [finish_eq]; rfl

/-- Settles O56: the request and its ACK, and the trailing drain. -/
theorem wholeExchangeWithoutResponse : Obligations.WholeExchangeWithoutResponse := by
  intro s rest hb hrx hx
  calc
    _ = Sys2Proof.core.run 1 { acknowledged s false with agenda := .engine :: rest } := run_acknowledged s hb hrx hx
    _ = Sys2Proof.core.run 0 (finish { acknowledged s false with agenda := rest } .ok) :=
      run_turn (acknowledged s false) (engineTurn_of_drainingTrailing rfl hrx)
    _ = _ := by rw [finish_eq]; rfl

end Sys2Proof
end

section
/-! PROOFS. How a step ends an exchange or leaves it in flight, and what is left of the events to come (R53, R128). -/

namespace Sys2Proof.Machine

open Sys2Proof.Claims

variable {s t : State}

@[simp] theorem nextEvent_snd_seq (s : State) : (nextEvent s).2.seq = s.seq := by rw [nextEvent_state]

@[simp] theorem nextEvent_snd_ctr (s : State) : (nextEvent s).2.ctr = s.ctr := by rw [nextEvent_state]

/-! ### The engine's turn -/

/-- From `s` to `t` the exchange goes on: it is still in flight, its counters are the same, and so are the events to come. -/
def GoesOn (s t : State) : Prop := busy t = true ∧ t.seq = s.seq ∧ t.ctr = s.ctr ∧ t.agenda = s.agenda

/-- From `s` to `t` bytes are taken from the head of RX, or none, and the exchange finishes there (R137). -/
def Finishes (s t : State) : Prop := ∃ n r, t = finish (rxDrop s n) r

theorem finishes_finish (s : State) (r : ResultCode) : Finishes s (finish s r) := ⟨0, r, rfl⟩

/-- An acknowledged request leaves the exchange in flight, with a response awaited or not (R113). -/
theorem goesOn_ackSuccess (s : State) : GoesOn s (ackSuccess s) := by
  refine ⟨?_, ackSuccess_seq s, ackSuccess_ctr s, ackSuccess_agenda s⟩
  rw [busy, ackSuccess_state]
  split_ifs <;> rfl

theorem drainTurn_goesOn_or_finishes (hb : busy s = true) (h : drainTurn s = .stepped t) : GoesOn s t ∨ Finishes s t := by
  obtain ⟨-, rfl⟩ | ⟨n, -, -, rfl⟩ := drainTurn_stepped h
  · exact .inr (finishes_finish s _)
  · exact .inl ⟨hb, rfl, rfl, rfl⟩

/-- An ack read goes on or finishes if what a retry-ACK leads to does (R112 to R116). -/
theorem ackTurn_goesOn_or_finishes {k : State → State} (hk : GoesOn s (k (rxDrop s 10)) ∨ Finishes s (k (rxDrop s 10)))
    (h : ackTurn k s = .stepped t) : GoesOn s t ∨ Finishes s t := by
  obtain ⟨-, ⟨e, -, rfl⟩ | ⟨-, rfl⟩ | ⟨-, rfl⟩⟩ := ackTurn_stepped h
  · exact .inr ⟨10, codeOf e, rfl⟩
  · exact .inl (goesOn_ackSuccess (rxDrop s 10))
  · exact hk

theorem headerTurn_goesOn_or_finishes (hb : busy s = true) (h : headerTurn s = .stepped t) : GoesOn s t ∨ Finishes s t := by
  obtain ⟨-, ⟨-, rfl⟩ | ⟨-, rfl⟩⟩ := headerTurn_stepped h
  · exact .inl ⟨hb, rfl, rfl, rfl⟩
  · exact .inr ⟨8, _, rfl⟩

theorem bodyTurn_goesOn_or_finishes (h : bodyTurn s = .stepped t) : GoesOn s t ∨ Finishes s t := by
  obtain ⟨-, -, ⟨e, -, rfl⟩ | ⟨r, -, rfl⟩⟩ := bodyTurn_stepped h
  · exact .inr ⟨_, codeOf e, rfl⟩
  · exact .inl ⟨rfl, rfl, rfl, rfl⟩

/-- A state with an engine step has an exchange in flight (R125). -/
theorem busy_of_stepped (h : engineTurn s = .stepped t) : busy s = true := by
  rw [← Bool.not_eq_false, ← engineTurn_quiescent_iff, h]
  exact nofun

/-- Each row of the transition table leaves the exchange in flight, or finishes it (R128, R137). -/
theorem engineTurn_goesOn_or_finishes (h : engineTurn s = .stepped t) : GoesOn s t ∨ Finishes s t := by
  have hb := busy_of_stepped h
  obtain ⟨-, -, rfl⟩ | ⟨-, -, rfl⟩ | ⟨-, -, h⟩ | ⟨-, h⟩ | ⟨-, h⟩ | ⟨-, -, h⟩ | ⟨-, -, h⟩ | ⟨-, rfl⟩ := engineTurn_stepped h
  · exact .inl ⟨rfl, rfl, rfl, rfl⟩
  · exact .inr (finishes_finish s _)
  · exact drainTurn_goesOn_or_finishes hb h
  · exact ackTurn_goesOn_or_finishes (.inl ⟨rfl, rfl, rfl, rfl⟩) h
  · exact ackTurn_goesOn_or_finishes (.inr ⟨10, _, rfl⟩) h
  · exact headerTurn_goesOn_or_finishes hb h
  · exact bodyTurn_goesOn_or_finishes h
  · exact .inl ⟨rfl, rfl, rfl, rfl⟩

/-! ### The events to come -/

theorem engineTurn_agenda (h : engineTurn s = .stepped t) : t.agenda = s.agenda := by
  obtain ⟨-, -, -, ha⟩ | ⟨n, r, rfl⟩ := engineTurn_goesOn_or_finishes h
  · exact ha
  · rfl

@[simp] theorem writeReg_agenda (s : State) (o : Offset) (v : Byte) : (writeReg s o v).agenda = s.agenda := by
  rw [writeReg_frame]

theorem exec_command_agenda {i : Instr} (hc : i.channel = .command) (h : exec i s = .next t) : t.agenda = s.agenda := by
  cases i with
  | nop | crcInit | crcUpdate => cases h; rfl
  | start => obtain ⟨-, rfl⟩ | ⟨-, rfl⟩ := exec_start_next h <;> rfl
  | abort => obtain ⟨-, rfl⟩ | ⟨-, rfl⟩ := exec_abort_next h <;> rfl
  | _ => cases hc

/-- A step takes its one event off the agenda, and leaves the others as they are (R53). -/
theorem step_agenda (h : step s = .next t) : t.agenda = (nextEvent s).2.agenda := by
  cases he : (nextEvent s).1 with
  | engine =>
    obtain hs | rfl := step_engine_next he h
    · exact engineTurn_agenda hs
    · rfl
  | hostWrite o v =>
    cases hc : fetchCommand o v with
    | some i => rw [step_of_command he hc] at h; exact exec_command_agenda (fetchCommand_channel hc) h
    | none => rw [step_of_registerWrite he hc] at h; cases h; simp
  | hostRead o => rw [step_of_hostRead he] at h; cases h; rfl
  | deliver b bs => rw [step_of_deliver he] at h; cases h; rfl
  | reset => rw [step_of_reset he] at h; cases h; rfl

/-- What is behind the next event is a part of what was to come. -/
theorem mem_nextEvent_agenda {e : Event} (h : e ∈ (nextEvent s).2.agenda) : e ∈ s.agenda := by
  unfold nextEvent at h
  split at h
  · exact h
  · next ha => rw [ha]; exact List.mem_cons_of_mem _ h

/-- The next event is one of those to come, or the engine's turn (log 1). -/
theorem nextEvent_eq_engine_or_mem (s : State) : (nextEvent s).1 = .engine ∨ (nextEvent s).1 ∈ s.agenda := by
  unfold nextEvent
  split
  · exact .inl rfl
  · next ha => rw [ha]; exact .inr (List.mem_cons_self ..)

/-! ### Runs -/

/-- A run of one step more is a step and the run behind it. -/
theorem run_succ_next {n : Nat} (h : Sys2Proof.core.run (n + 1) s = Host.Outcome.next t) :
    ∃ u, step s = .next u ∧ Sys2Proof.core.run n u = Host.Outcome.next t := by
  have hstep : Sys2Proof.core.step s = step s := rfl
  cases hs : step s with
  | next u => exact ⟨u, rfl, (run_next hs).symm.trans h⟩
  | fault r | refused r => simp [Host.Core.run, hstep, hs] at h

end Sys2Proof.Machine
end

section
/-! PROOFS. SEQ and CTR by one event (R129, R131, R132, R43), and by a run that counts the exchanges it ends (R133). -/

namespace Sys2Proof.Claims

open Sys2Proof.Machine

variable {s t u : State}

/-! ### One event -/

/-- The offsets of SEQ, CTR_LO and CTR_HI (R35). -/
def counterOffset (o : Offset) : Prop := o ∈ [(0x0007 : Offset), 0x0008, 0x0009]

/-- From `s` to `t` the exchange in flight ends, and both counters go up by one (R129). -/
def EndsExchange (s t : State) : Prop := busy s = true ∧ busy t = false ∧ t.seq = s.seq + 1 ∧ t.ctr = s.ctr + 1

/-- From `s` to `t` no exchange ends, and both counters stay (R132). -/
def KeepsCounters (s t : State) : Prop := (busy s = true → busy t = true) ∧ t.seq = s.seq ∧ t.ctr = s.ctr

/-- In `s` the next event is a host write of a counter that takes effect (R43). -/
def WritesCounter (s : State) : Prop := busy s = false ∧ ∃ o v, (nextEvent s).1 = .hostWrite o v ∧ counterOffset o

/-- Taking the event off the agenda is no part of what a step does to the counters. -/
@[simp] theorem endsExchange_nextEvent (s t : State) : EndsExchange (nextEvent s).2 t ↔ EndsExchange s t := by
  simp [EndsExchange]

@[simp] theorem keepsCounters_nextEvent (s t : State) : KeepsCounters (nextEvent s).2 t ↔ KeepsCounters s t := by
  simp [KeepsCounters]

theorem KeepsCounters.of_same (hst : t.state = s.state) (hseq : t.seq = s.seq) (hctr : t.ctr = s.ctr) : KeepsCounters s t :=
  ⟨fun hb => (congrArg isBusy hst).trans hb, hseq, hctr⟩

theorem endsExchange_finish (hb : busy s = true) (r : ResultCode) : EndsExchange s (finish s r) :=
  ⟨hb, busy_finish s r, finish_seq s r, finish_ctr s r⟩

/-- Each row of the transition table ends the exchange with both counters up by one, or keeps both (R128, R129). -/
theorem engineTurn_counters (h : engineTurn s = .stepped t) : EndsExchange s t ∨ KeepsCounters s t := by
  have hb := busy_of_stepped h
  obtain ⟨hgo, hseq, hctr, -⟩ | ⟨n, r, rfl⟩ := engineTurn_goesOn_or_finishes h
  · exact .inr ⟨fun _ => hgo, hseq, hctr⟩
  · exact .inl (endsExchange_finish (s := rxDrop s n) hb r)

/-- Of the commands only an ABORT moves the counters, where it ends an exchange (R124). -/
theorem exec_command_counters {i : Instr} (hc : i.channel = .command) (h : exec i s = .next t) :
    EndsExchange s t ∨ KeepsCounters s t := by
  cases i with
  | nop | crcInit | crcUpdate => cases h; exact .inr (.of_same rfl rfl rfl)
  | start =>
    obtain ⟨-, rfl⟩ | ⟨-, rfl⟩ := exec_start_next h
    · exact .inr (.of_same rfl rfl rfl)
    · exact .inr ⟨fun _ => rfl, rfl, rfl⟩
  | abort =>
    obtain ⟨hb, rfl⟩ | ⟨-, rfl⟩ := exec_abort_next h
    · exact .inl (endsExchange_finish hb _)
    · exact .inr (.of_same rfl rfl rfl)
  | _ => cases hc

/-- A write of any other register leaves SEQ and CTR (R43). -/
theorem writeReg_of_not_counterOffset {o : Offset} (ho : ¬ counterOffset o) (s : State) (v : Byte) :
    (writeReg s o v).seq = s.seq ∧ (writeReg s o v).ctr = s.ctr := by
  have hne {r : Offset} (hr : counterOffset r) : (o = r) = False := eq_false fun he => ho (he ▸ hr)
  simp (disch := (unfold counterOffset; decide)) only [writeReg, hne, if_false]
  split_ifs <;> exact ⟨rfl, rfl⟩

/-- A register write keeps both counters where BUSY = 1, and where it is of another register (R43). -/
theorem keepsCounters_writeReg {o : Offset} (h : busy s = true ∨ ¬ counterOffset o) (v : Byte) :
    KeepsCounters s (writeReg s o v) := by
  obtain ⟨hseq, hctr⟩ := h.elim (fun hb => writeReg_busy hb o v) (fun ho => writeReg_of_not_counterOffset ho s v)
  exact .of_same (writeReg_state s o v) hseq hctr

theorem step_hostWrite_counters {o : Offset} {v : Byte} (he : (nextEvent s).1 = .hostWrite o v) (h : step s = .next t) :
    EndsExchange s t ∨ KeepsCounters s t ∨ WritesCounter s := by
  cases hc : fetchCommand o v with
  | some i =>
    rw [step_of_command he hc] at h
    have hcounters : EndsExchange s t ∨ KeepsCounters s t := by simpa using exec_command_counters (fetchCommand_channel hc) h
    exact hcounters.imp_right .inl
  | none =>
    rw [step_of_registerWrite he hc] at h
    cases h
    by_cases hw : busy s = false ∧ counterOffset o
    · obtain ⟨hb, ho⟩ := hw
      exact .inr (.inr ⟨hb, o, v, he, ho⟩)
    · have hkeep : busy (nextEvent s).2 = true ∨ ¬ counterOffset o := by
        rw [busy_nextEvent_snd, ← Bool.not_eq_false]
        exact not_and_or.mp hw
      exact .inr (.inl (by simpa using keepsCounters_writeReg hkeep v))

/-- What any event but a reset does to the counters. -/
theorem step_counters (h : step s = .next t) (hr : (nextEvent s).1 ≠ .reset) :
    EndsExchange s t ∨ KeepsCounters s t ∨ WritesCounter s := by
  cases he : (nextEvent s).1 with
  | engine =>
    obtain hs | rfl := step_engine_next he h
    · have hcounters : EndsExchange s t ∨ KeepsCounters s t := by simpa using engineTurn_counters hs
      exact hcounters.imp_right .inl
    · exact .inr (.inl (.of_same (by simp) (by simp) (by simp)))
  | hostWrite o v => exact step_hostWrite_counters he h
  | hostRead o => rw [step_of_hostRead he] at h; cases h; exact .inr (.inl (.of_same (by simp) (by simp) (by simp)))
  | deliver b bs => rw [step_of_deliver he] at h; cases h; exact .inr (.inl (.of_same (by simp) (by simp) (by simp)))
  | reset => exact absurd he hr

/-! ### Counters k further -/

/-- In `t` both counters are `k` further than in `s`, each in its own width (R131). -/
def CountersFurther (k : Nat) (s t : State) : Prop :=
  t.seq.toNat = (s.seq.toNat + k) % 256 ∧ t.ctr.toNat = (s.ctr.toNat + k) % 65536

theorem CountersFurther.of_same (hseq : t.seq = s.seq) (hctr : t.ctr = s.ctr) : CountersFurther 0 s t := by
  rw [CountersFurther, hseq, hctr]
  exact ⟨(Nat.mod_eq_of_lt s.seq.isLt).symm, (Nat.mod_eq_of_lt s.ctr.isLt).symm⟩

theorem CountersFurther.of_succ (hseq : t.seq = s.seq + 1) (hctr : t.ctr = s.ctr + 1) : CountersFurther 1 s t := by
  rw [CountersFurther, hseq, hctr]
  exact ⟨BitVec.toNat_add s.seq 1, BitVec.toNat_add s.ctr 1⟩

theorem CountersFurther.trans {j k : Nat} (h₁ : CountersFurther j s t) (h₂ : CountersFurther k t u) :
    CountersFurther (j + k) s u := by
  obtain ⟨hseq₁, hctr₁⟩ := h₁
  obtain ⟨hseq₂, hctr₂⟩ := h₂
  constructor <;> omega

theorem countersFurther_advance (s : State) : CountersFurther 1 s (advance s) := .of_succ (advance_seq s) (advance_ctr s)

theorem countersFurther_finish (s : State) (r : ResultCode) : CountersFurther 1 s (finish s r) :=
  .of_succ (finish_seq s r) (finish_ctr s r)

/-! ### A run without a reset or a counter write -/

/-- The exchanges that end in the step from `s` to `t`: one or none (R133). -/
def endsNow (s t : State) : Nat := if busy s = true ∧ busy t = false then 1 else 0

theorem ends_succ (n : Nat) (h : step s = .next t) : ends (n + 1) s = endsNow s t + ends n t := by
  rw [ends, h, endsNow]

/-- A step that ends an exchange takes the counters one further, and counts one. -/
theorem EndsExchange.countersFurther (h : EndsExchange s t) : CountersFurther (endsNow s t) s t := by
  obtain ⟨hs, ht, hseq, hctr⟩ := h
  have hone : endsNow s t = 1 := if_pos ⟨hs, ht⟩
  rw [hone]
  exact .of_succ hseq hctr

/-- A step that ends none leaves the counters, and counts none. -/
theorem KeepsCounters.countersFurther (h : KeepsCounters s t) : CountersFurther (endsNow s t) s t := by
  obtain ⟨hb, hseq, hctr⟩ := h
  have hzero : endsNow s t = 0 := if_neg fun ⟨hs, ht⟩ => by simp [hb hs] at ht
  rw [hzero]
  exact .of_same hseq hctr

theorem leavesCounters_step (ha : leavesCounters s.agenda) (h : step s = .next t) : leavesCounters t.agenda := by
  rw [step_agenda h]
  exact fun e he => ha e (mem_nextEvent_agenda he)

/-- The next event of such a run is no reset and no counter write either. -/
theorem nextEvent_of_leavesCounters (ha : leavesCounters s.agenda) : (nextEvent s).1 ≠ .reset ∧ ¬ WritesCounter s := by
  obtain he | hmem := nextEvent_eq_engine_or_mem s
  · exact ⟨by simp [he], fun ⟨_, o, v, hw, _⟩ => by simp [he] at hw⟩
  · obtain ⟨hr, hw⟩ := ha _ hmem
    exact ⟨hr, fun ⟨_, o, v, he, ho⟩ => hw o v he ho⟩

theorem step_countersFurther (ha : leavesCounters s.agenda) (h : step s = .next t) : CountersFurther (endsNow s t) s t := by
  obtain ⟨hr, hw⟩ := nextEvent_of_leavesCounters ha
  obtain hend | hkeep | hwrite := step_counters h hr
  · exact hend.countersFurther
  · exact hkeep.countersFurther
  · exact absurd hwrite hw

theorem run_countersFurther (n : Nat) (ha : leavesCounters s.agenda) (h : Sys2Proof.core.run n s = Host.Outcome.next t) :
    CountersFurther (ends n s) s t := by
  induction n generalizing s with
  | zero => cases h; exact .of_same rfl rfl
  | succ n ih =>
    obtain ⟨u, hstep, hrun⟩ := run_succ_next h
    rw [ends_succ n hstep]
    exact (step_countersFurther ha hstep).trans (ih (leavesCounters_step ha hstep) hrun)

/-! ### Exchanges by START and ABORT -/

/-- The state behind an exchange that is begun and aborted at once (R109, R124). -/
def abortedExchange (s : State) : State := finish (beginExchange s) .aborted

theorem countersFurther_abortedExchange (s : State) : CountersFurther 1 s (abortedExchange s) :=
  countersFurther_finish (beginExchange s) .aborted

theorem run_abortedExchange (n : Nat) (s : State) (rest : List Event) (hb : busy s = false) :
    Sys2Proof.core.run (n + 2) { s with agenda := .hostWrite 0x0000 0x10 :: .hostWrite 0x0000 0x11 :: rest }
      = Sys2Proof.core.run n { abortedExchange s with agenda := rest } := by
  have hstart : step { s with agenda := .hostWrite 0x0000 0x10 :: .hostWrite 0x0000 0x11 :: rest }
      = .next { beginExchange s with agenda := .hostWrite 0x0000 0x11 :: rest } :=
    (stepRunsCommand s 0x10 .start _ rfl).trans (exec_start_of_not_busy (s := { s with agenda := _ }) hb)
  have habort : step { beginExchange s with agenda := .hostWrite 0x0000 0x11 :: rest }
      = .next { abortedExchange s with agenda := rest } :=
    (stepRunsCommand (beginExchange s) 0x11 .abort rest rfl).trans (congrArg _ (if_pos rfl))
  exact (run_next hstart).trans (run_next habort)

theorem run_abortedExchanges (k : Nat) (s : State) (rest : List Event) (hb : busy s = false) :
    ∃ t, Sys2Proof.core.run (2 * k) { s with agenda := abortedExchanges k ++ rest } = Host.Outcome.next t ∧
      CountersFurther k s t ∧ busy t = false ∧ t.agenda = rest := by
  induction k generalizing s with
  | zero => exact ⟨_, rfl, .of_same rfl rfl, hb, rfl⟩
  | succ k ih =>
    obtain ⟨t, hrun, hfar, hidle, hrest⟩ := ih (abortedExchange s) (busy_finish _ _)
    refine ⟨t, (run_abortedExchange (2 * k) s _ hb).trans hrun, ?_, hidle, hrest⟩
    rw [Nat.add_comm]
    exact (countersFurther_abortedExchange s).trans hfar

end Sys2Proof.Claims
end

section
/-! PROOFS. The Counter Store: the advance, when the counters change, and how far they are after many exchanges (O21, O22, O46). -/

namespace Sys2Proof

open Sys2Proof.Machine Sys2Proof.Claims

/-- Settles O46, by what the event does to the counters. -/
theorem countersChangeOnlyAtTheEnd : Obligations.CountersChangeOnlyAtTheEnd := by
  intro s t ht hr
  obtain ⟨hs, hend, hcounters⟩ | ⟨hbusy, hcounters⟩ | ⟨hs, o, v, he, ho⟩ := step_counters ht hr
  · exact ⟨fun _ _ => hcounters, fun _ hgo => by simp [hend] at hgo, fun hn => by simp [hs] at hn⟩
  · exact ⟨fun hs hend => by simp [hbusy hs] at hend, fun _ _ => hcounters, fun _ _ => hcounters⟩
  · exact ⟨fun hb => by simp [hs] at hb, fun hb => by simp [hs] at hb, fun _ hw => absurd ho (hw o v he)⟩

/-- Settles O22: every run by induction on its steps, and the runs by START and ABORT by induction on the exchanges. -/
theorem countersAfterManyExchanges : Obligations.CountersAfterManyExchanges := by
  refine ⟨fun n s t ha h => run_countersFurther n ha h, fun s k rest hb => ?_⟩
  obtain ⟨t, hrun, ⟨hseq, hctr⟩, hidle, hrest⟩ := run_abortedExchanges k s rest hb
  exact ⟨t, hrun, hseq, hctr, hidle, hrest⟩

/-- Settles O21. -/
theorem advanceWrapsBothCounters : Obligations.AdvanceWrapsBothCounters := fun s => by
  obtain ⟨hseq, hctr⟩ := countersFurther_advance s
  exact ⟨hseq, hctr, rfl⟩

end Sys2Proof
end

section
/-! PROOFS. The engine and the events to come: its turn is the same turn whatever they are, and leaves them as they are (R53, log 1). -/

namespace Sys2Proof.Machine

open Sys2Proof.Claims

/-- The same machine with other events to come. -/
def withAgenda (a : List Event) (s : State) : State := { s with agenda := a }

section
variable (a : List Event) (s : State)

/-- What the engine reads is the same with other events to come. -/
theorem withAgenda_reads : (withAgenda a s).state = s.state ∧ (withAgenda a s).rspPhase = s.rspPhase ∧
    (withAgenda a s).frameBuf = s.frameBuf ∧ (withAgenda a s).rx = s.rx ∧ (withAgenda a s).seq = s.seq ∧
    (withAgenda a s).ctr = s.ctr ∧ (withAgenda a s).xTc = s.xTc ∧ (withAgenda a s).xIid = s.xIid ∧
    (withAgenda a s).xRc = s.xRc ∧ (withAgenda a s).xExp = s.xExp := by
  simp [withAgenda]

@[simp] theorem busy_withAgenda : busy (withAgenda a s) = busy s := rfl

/-- RX loses its head with other events to come as before. -/
theorem rxDrop_withAgenda (n : Nat) : rxDrop (withAgenda a s) n = withAgenda a (rxDrop s n) := rfl

/-- A good ACK leads on with other events to come as before (R113). -/
theorem ackSuccess_withAgenda : ackSuccess (withAgenda a s) = withAgenda a (ackSuccess s) := by
  simp only [ackSuccess, withAgenda_reads]
  split_ifs <;> rfl

end

variable {a : List Event}

theorem readExact_carries_withAgenda {n : Nat} {k : List Byte → State → Turn} (hk : ∀ b, Carries (withAgenda a) (k b)) :
    Carries (withAgenda a) (readExact n · k) := by
  intro s
  simp only [readExact, withAgenda_reads, rxDrop_withAgenda]
  split_ifs
  · rfl
  · exact hk _ _

theorem drainTurn_carries_withAgenda : Carries (withAgenda a) drainTurn := by
  intro s
  simp only [drainTurn, withAgenda_reads]
  cases classify config s.rx with
  | unknown => rfl
  | need k => rfl
  | len n => dsimp only; split_ifs <;> rfl

theorem ackTurn_carries_withAgenda {k : State → State} (hk : ∀ s, k (withAgenda a s) = withAgenda a (k s)) :
    Carries (withAgenda a) (ackTurn k) := by
  refine readExact_carries_withAgenda fun b s => ?_
  simp only [withAgenda_reads, ackSuccess_withAgenda, hk]
  cases decodeAck config b s.seq with
  | error e => rfl
  | ok retry => cases retry <;> rfl

theorem headerTurn_carries_withAgenda : Carries (withAgenda a) headerTurn := by
  refine readExact_carries_withAgenda fun b s => ?_
  split_ifs <;> rfl

theorem bodyTurn_carries_withAgenda : Carries (withAgenda a) bodyTurn := by
  intro s
  simp only [bodyTurn, withAgenda_reads]
  split_ifs
  · rfl
  · refine readExact_carries_withAgenda (fun b u => ?_) s
    simp only [withAgenda_reads]
    cases decodeMessage config (u.frameBuf ++ b) u.ctr u.xTc u.xIid u.xRc <;> rfl

theorem readTurn_carries_withAgenda : Carries (withAgenda a) readTurn := by
  intro s
  simp only [readTurn, withAgenda_reads]
  cases s.state with
  | idle | sendingResponseAck | done | failed => rfl
  | draining | drainingTrailing => exact drainTurn_carries_withAgenda s
  | awaitingAck => exact ackTurn_carries_withAgenda (k := firstRetry) (fun _ => rfl) s
  | retrySend => exact ackTurn_carries_withAgenda (k := secondRetry) (fun _ => rfl) s
  | awaitingResponse =>
    cases s.rspPhase with
    | hdr => exact headerTurn_carries_withAgenda s
    | body => exact bodyTurn_carries_withAgenda s

/-- The engine's turn reads none of the events to come, and keeps them (R53, R108). -/
theorem engineTurn_carries_withAgenda : Carries (withAgenda a) engineTurn := by
  intro s
  have hread := readTurn_carries_withAgenda (a := a) s
  simp only [engineTurn, withAgenda_reads, hread]
  cases s.state with
  | draining | drainingTrailing => dsimp only; split_ifs <;> rfl
  | idle | awaitingAck | retrySend | awaitingResponse | sendingResponseAck | done | failed => rfl

end Sys2Proof.Machine
end

section
/-! PROOFS. An ABORT and an engine turn as steps at the head of the agenda, by BUSY (R124, R125, R140). -/

namespace Sys2Proof.Machine

variable {s t : State} {n : Nat} {rest : List Event}

/-- An ABORT while an exchange is in flight ends it (R124). -/
theorem run_abort_of_busy (hb : busy s = true) : Sys2Proof.core.run (n + 1) { s with agenda := .hostWrite 0x0000 0x11 :: rest } =
    Sys2Proof.core.run n (finish { s with agenda := rest } .aborted) :=
  run_next ((stepRunsCommand s 0x11 .abort rest rfl).trans (congrArg _ (if_pos hb)))

/-- An ABORT while none is in flight does nothing (R124). -/
theorem run_abort_of_not_busy (hb : busy s = false) :
    Sys2Proof.core.run (n + 1) { s with agenda := .hostWrite 0x0000 0x11 :: rest } =
      Sys2Proof.core.run n { s with agenda := rest } :=
  run_next ((stepRunsCommand s 0x11 .abort rest rfl).trans (congrArg _ (if_neg (ne_true_of_eq_false hb))))

/-- While BUSY = 0 the engine has no step (R125). -/
theorem run_engine_of_not_busy (hb : busy s = false) : Sys2Proof.core.run (n + 1) { s with agenda := .engine :: rest } =
    Sys2Proof.core.run n { s with agenda := rest } :=
  run_next (step_engine_of_not_busy (s := { s with agenda := .engine :: rest }) hb rfl)

/-- An engine step is taken whatever events stand behind it. -/
theorem run_engine_of_stepped (h : engineTurn s = .stepped t) : Sys2Proof.core.run (n + 1) { s with agenda := .engine :: rest } =
    Sys2Proof.core.run n { t with agenda := rest } :=
  run_turn s ((engineTurn_carries_withAgenda s).trans (congrArg (Turn.map (withAgenda rest)) h))

end Sys2Proof.Machine
end

section
/-! PROOFS. The end of an exchange and its race with ABORT (O20, O58). -/

namespace Sys2Proof

open Sys2Proof.Machine Sys2Proof.Claims

/-- Settles O20. -/
theorem finishWritesExactly : Obligations.FinishWritesExactly := finish_eq

/-- Settles O58: first the engine step, then an ABORT with BUSY = 0; or first the ABORT, then an engine turn with BUSY = 0. -/
theorem abortAndCompletionRace : Obligations.AbortAndCompletionRace := by
  intro s t rest ht hidle
  constructor
  case left =>
    calc Sys2Proof.core.run 2 { s with agenda := .engine :: .hostWrite 0x0000 0x11 :: rest }
        = Sys2Proof.core.run 1 { t with agenda := .hostWrite 0x0000 0x11 :: rest } := run_engine_of_stepped ht
      _ = Sys2Proof.core.run 0 { t with agenda := rest } := run_abort_of_not_busy hidle
  case right =>
    calc Sys2Proof.core.run 2 { s with agenda := .hostWrite 0x0000 0x11 :: .engine :: rest }
        = Sys2Proof.core.run 1 { finish s .aborted with agenda := .engine :: rest } := run_abort_of_busy (busy_of_stepped ht)
      _ = Sys2Proof.core.run 0 (finish { s with agenda := rest } .aborted) := run_engine_of_not_busy (busy_finish s .aborted)

end Sys2Proof
end

section
/-! PROOFS. A received frame where the engine does not read RX (R125; logs 3, 4): it waits at the head of RX. -/

namespace Sys2Proof.Machine

open Sys2Proof.Safety

variable {s : State}

/-- In IDLE, DONE, FAILED and SENDING_RESPONSE_ACK the engine does not read RX, and the turn on it changes nothing. -/
theorem readTurn_outcome_of_not_reading (hs : busy s = false ∨ s.state = .sendingResponseAck) :
    (readTurn s).outcome s = .next s := by
  rw [busy_eq_false_iff] at hs
  obtain (hs | hs | hs) | hs := hs <;> simp only [readTurn, hs, Turn.outcome]

theorem not_awaitsBody_of_not_reading (hs : busy s = false ∨ s.state = .sendingResponseAck) : ¬ awaitsBody s := by
  rintro ⟨hw, -⟩
  simp [busy, isBusy, hw] at hs

end Sys2Proof.Machine
end

section
/-! PROOFS. The host duties (R130, R160, log 14): the three breaches of a duty, and what a run with one comes to. -/

namespace Sys2Proof.Safety

open Sys2Proof.Machine Sys2Proof.Claims

variable {s t : State} {m : Restore} {d : Duty} {n : Nat} {o : Offset} {v : Byte}

theorem isResultReg_iff (o : Offset) : isResultReg o = true ↔ resultOffset o := by
  simp only [isResultReg, resultOffset, offResult, offRespSeq, offRespLen, offSeq, offCtrLo, offCtrHi, offRespBuf, config,
    BitVec.ofNat_eq_ofNat, BitVec.toNat_ofNat, Nat.reducePow, Nat.reduceMod, Bool.or_eq_true, Bool.and_eq_true, beq_iff_eq,
    decide_eq_true_eq, List.mem_cons, List.not_mem_nil, or_false]
  tauto

theorem Restore.underWay_iff (m : Restore) : m.underWay = true ↔ m.seq = true ∨ m.ctrLo = true ∨ m.ctrHi = true := by
  simp [Restore.underWay, or_assoc]

/-! ### The breach by event -/

/-- A START breaks a duty while BUSY = 1, and otherwise inside a restore. -/
theorem breach_of_start (he : (nextEvent s).1 = .hostWrite 0x0000 0x10) : breach m s =
    if busy s then some .startWhileBusy else if m.underWay then some .startInsideRestore else none := by
  rw [breach, he]; rfl

/-- No other host write breaks a duty. -/
theorem breach_of_other_write (he : (nextEvent s).1 = .hostWrite o v) (hn : ¬ (o = 0x0000 ∧ v = 0x10)) : breach m s = none := by
  rw [breach, he]; exact if_neg hn

theorem breach_of_hostRead (he : (nextEvent s).1 = .hostRead o) : breach m s =
    if isResultReg o && busy s then some .resultWhileBusy else none := by
  rw [breach, he]

/-- The three duties (R160), and no other breach. -/
theorem breach_eq_some_iff : breach m s = some d ↔
    ((nextEvent s).1 = .hostWrite 0x0000 0x10 ∧ busy s = true ∧ d = .startWhileBusy) ∨
    ((nextEvent s).1 = .hostWrite 0x0000 0x10 ∧ busy s = false ∧ m.underWay = true ∧ d = .startInsideRestore) ∨
    (∃ o, (nextEvent s).1 = .hostRead o ∧ resultOffset o ∧ busy s = true ∧ d = .resultWhileBusy) := by
  cases he : (nextEvent s).1 with
  | hostWrite o v =>
    by_cases hstart : o = 0x0000 ∧ v = 0x10
    · obtain ⟨rfl, rfl⟩ := hstart
      rw [breach_of_start he]
      cases busy s <;> cases m.underWay <;> simp [eq_comm (a := d)]
    · simp only [breach_of_other_write he hstart, Event.hostWrite.injEq, hstart]
      simp
  | hostRead o =>
    simp only [breach_of_hostRead he, ← isResultReg_iff]
    cases busy s <;> by_cases hr : isResultReg o = true <;> simp [hr, eq_comm (a := d)]
  | deliver | engine | reset => simp [breach, he]

/-- A step that breaks a duty is a host access, and no host access faults. -/
theorem step_next_of_breach (h : breach m s = some d) : ∃ t, step s = .next t := by
  obtain ⟨he, -⟩ | ⟨he, -⟩ | ⟨o, he, -⟩ := breach_eq_some_iff.mp h
  · exact step_hostWrite_next he
  · exact step_hostWrite_next he
  · exact ⟨_, step_of_hostRead he⟩

/-! ### Runs under the duties -/

theorem dutifulRun_of_breach (h : breach m s = some d) : dutifulRun (n + 1) m s = .dutyBroken d := by
  simp only [dutifulRun, h]

theorem dutifulRun_of_step (h : breach m s = none) (ht : step s = .next t) :
    dutifulRun (n + 1) m s = dutifulRun n (m.after s (nextEvent s).1) t := by
  simp only [dutifulRun, h, ht]

/-- Outside an exchange a START inside a restore is refused; any other begins an exchange (R109). -/
theorem dutifulRun_start {rest : List Event} (hb : busy s = false) (ha : s.agenda = .hostWrite 0x0000 0x10 :: rest) :
    if m.underWay = true then dutifulRun 1 m s = .dutyBroken .startInsideRestore
    else ∃ t, dutifulRun 1 m s = .ran t ∧ t.state = .draining := by
  have hn := nextEvent_of_cons ha
  have he : (nextEvent s).1 = .hostWrite 0x0000 0x10 := congrArg Prod.fst hn
  have hbreach : breach m s = if m.underWay = true then some .startInsideRestore else none := by simp [breach_of_start he, hb]
  have hstep : step s = .next (beginExchange (nextEvent s).2) :=
    (step_of_command he rfl).trans (exec_start_of_not_busy (by rwa [busy_nextEvent_snd]))
  split_ifs at hbreach ⊢ with hm
  · exact dutifulRun_of_breach hbreach
  · exact ⟨_, dutifulRun_of_step hbreach hstep, rfl⟩

/-- Outside an exchange a write of SEQ or of half of CTR breaks no duty, and is one write of a restore (R130). -/
theorem dutifulRun_counterWrite {rest : List Event} (hb : busy s = false) (ho : counterOffset o)
    (ha : s.agenda = .hostWrite o v :: rest) :
    ∃ t, dutifulRun (n + 1) m s = dutifulRun n (m.write o) t ∧ busy t = false ∧ t.agenda = rest := by
  have hn := nextEvent_of_cons ha
  have he : (nextEvent s).1 = .hostWrite o v := congrArg Prod.fst hn
  have hcmd : o ≠ 0x0000 := by rintro rfl; revert ho; unfold counterOffset; decide
  have hstep : step s = .next (writeReg (nextEvent s).2 o v) := step_of_registerWrite he (if_neg hcmd)
  have hafter : m.after s (.hostWrite o v) = m.write o := if_neg (by simp [hb])
  refine ⟨_, ?_, ?_, (writeReg_agenda _ o v).trans (congrArg (·.2.agenda) hn)⟩
  · rw [dutifulRun_of_step (breach_of_other_write he fun h => hcmd h.1) hstep, he, hafter]
  · simpa [busy] using hb

/-- The writes of SEQ and CTR in a row leave the restore that their offsets make. -/
theorem dutifulRun_counterWrites {writes : List (Offset × Byte)} {rest : List Event} (hw : ∀ w ∈ writes, counterOffset w.1)
    (hb : busy s = false) (ha : s.agenda = writes.map (fun w => .hostWrite w.1 w.2) ++ rest) :
    ∃ t, dutifulRun (writes.length + n) m s = dutifulRun n ((writes.map Prod.fst).foldl Restore.write m) t ∧
      busy t = false ∧ t.agenda = rest := by
  induction writes generalizing m s with
  | nil => exact ⟨s, by simp, hb, ha⟩
  | cons w writes ih =>
    obtain ⟨hw, hws⟩ := List.forall_mem_cons.mp hw
    obtain ⟨u, hu, hub, hua⟩ := dutifulRun_counterWrite (n := writes.length + n) hb hw ha
    obtain ⟨t, ht, htb, hta⟩ := ih hws hub hua
    exact ⟨t, by rw [List.length_cons, Nat.add_right_comm, hu]; exact ht, htb, hta⟩

/-! ### The restore that a list of writes makes -/

/-- The restore behind writes of the offsets `os`, in any order, all in effect. -/
def Restore.made (os : List Offset) : Restore :=
  Restore.close { seq := decide (0x0007 ∈ os), ctrLo := decide (0x0008 ∈ os), ctrHi := decide (0x0009 ∈ os) }

theorem Restore.made_of_perm {os os' : List Offset} (h : os.Perm os') : Restore.made os = Restore.made os' := by
  simp only [Restore.made, h.mem_iff]

/-- A write of a register not yet written adds its offset. -/
theorem Restore.write_made {os : List Offset} (ho : counterOffset o) (hn : o ∉ os) :
    (Restore.made os).write o = Restore.made (os ++ [o]) := by
  simp only [counterOffset, List.mem_cons, List.not_mem_nil, or_false] at ho
  obtain rfl | rfl | rfl := ho
  all_goals
    rw [BitVec.ofNat_eq_ofNat] at hn
    simp [Restore.write, Restore.made, Restore.close, offSeq, offCtrLo, offCtrHi, hn]

/-- Writes of different registers, one behind the other, make the restore of their offsets. -/
theorem Restore.foldl_write {os : List Offset} (ho : ∀ o ∈ os, counterOffset o) (hn : os.Nodup) :
    os.foldl Restore.write Restore.none = Restore.made os := by
  induction os using List.reverseRecOn with
  | nil => rfl
  | append_singleton os o ih =>
    simp only [List.mem_append, List.mem_singleton, or_imp, forall_and, forall_eq] at ho
    obtain ⟨hos, -, hnot⟩ := List.nodup_append.mp hn
    rw [List.foldl_append, ih ho.1 hos, List.foldl_cons, List.foldl_nil, Restore.write_made ho.2]
    exact fun h => hnot o h o (List.mem_singleton_self o) rfl

/-- The restore is under way behind one or two of its three writes. -/
theorem Restore.underWay_made {os : List Offset} (ho : ∀ o ∈ os, counterOffset o) (hn : os.Nodup) :
    (Restore.made os).underWay = true ↔ os.length = 1 ∨ os.length = 2 := by
  obtain ⟨l, hl, hsub⟩ : os.Subperm [0x0007, 0x0008, 0x0009] := hn.subperm ho
  rw [← Restore.made_of_perm hl, ← hl.length_eq]
  have hall : ∀ l ∈ ([0x0007, 0x0008, 0x0009] : List Offset).sublists,
      (Restore.made l).underWay = true ↔ l.length = 1 ∨ l.length = 2 := by decide
  exact hall l (List.mem_sublists.mpr hsub)

end Sys2Proof.Safety
end

section
/-! PROOFS. The model's choices: frames outside their states, the record of host reads, and the host duties (O37, O52, O60). -/

namespace Sys2Proof

open Sys2Proof.Machine Sys2Proof.Safety Sys2Proof.Claims

/-- Settles O37. -/
theorem framesOutsideTheirStates : Obligations.FramesOutsideTheirStates := by
  refine ⟨fun s i hi hs => ?received, fun s f hs => ?request, fun s f hs => ?ack⟩
  case received =>
    rw [exec_received hi (not_awaitsBody_of_not_reading hs)]
    exact readTurn_outcome_of_not_reading (s := pushFront (encode i) s) hs
  case request => exact congrArg _ (if_neg hs)
  case ack => exact congrArg _ (if_neg hs)

/-- Settles O52. -/
theorem hostReadIsRecorded : Obligations.HostReadIsRecorded := fun s o rest =>
  step_of_hostRead (s := { s with agenda := .hostRead o :: rest }) rfl

/-- Settles O60: the breaches by event, and the restore that the writes before the START make. -/
theorem brokenDutyRefusesTheRun : Obligations.BrokenDutyRefusesTheRun := by
  intro n m s
  refine ⟨fun rest hb => ⟨dutifulRun_of_breach ?start, ?startStep⟩,
    fun d hd => ⟨dutifulRun_of_breach hd, step_next_of_breach hd⟩, by simp [breach_eq_some_iff],
    by simp [breach_eq_some_iff, Restore.underWay_iff], by simp [breach_eq_some_iff],
    fun o v hb => if_pos hb, fun writes rest hb hw hn => ?restore⟩
  case start => exact breach_eq_some_iff.mpr (.inl ⟨rfl, hb, rfl⟩)
  case startStep => exact (stepRunsCommand s 0x10 .start rest rfl).trans (congrArg _ (if_pos hb))
  case restore =>
    have ho : ∀ o ∈ writes.map Prod.fst, counterOffset o := by simpa [counterOffset] using hw
    obtain ⟨t, ht, htb, hta⟩ := dutifulRun_counterWrites (n := 1) (m := Restore.none)
      (s := { s with agenda := restoreThenStart writes ++ rest }) hw hb (List.append_assoc _ _ _)
    have hstart := dutifulRun_start (m := (writes.map Prod.fst).foldl Restore.write Restore.none) htb hta
    rw [← ht, Restore.foldl_write ho hn] at hstart
    simpa only [Restore.underWay_made ho hn, List.length_map] using hstart

end Sys2Proof
end
